-- ==== Sys2Proof/Word.lean ====
section
/-! DEFINITION. The widths the block's values have (`00_scope.md` R7, R9, R10; `20_memory.md` R63). -/

namespace Sys2Proof

/-- An 8-bit value: an operation word (R90), a drive word (R104), a delay. -/
abbrev Byte := BitVec 8

/-- A 16-bit bitmap: four rows of four bits, row `r` in bits `4r+3:4r` (R63, R103). The Framebuffer has the same layout (R21). -/
abbrev Frame := BitVec 16

/-- The 16-bit value of the linear-feedback shift register (R22). -/
abbrev LfsrWord := BitVec 16

/-- One row of a frame, a 4-bit nibble (R63). -/
abbrev Nibble := BitVec 4

end Sys2Proof
end

