-- ==== Sys2Proof/Syntax.lean ====
section
/-! DEFINITION. The block's operations (`30_encoding.md` R93, the sixteen rows of `opcode_table.json`) and its program:
the ProgramTable (`20_memory.md` R62) and the trace of operation words given to a model (R94). -/

namespace Sys2Proof

/-- The sixteen operations of R93. Operand ranges are in the types (R92), so every term is an operation. -/
inductive Instr where
  | scanRow (y : BitVec 2)   -- SCANROW y (R215)
  | debDec                   -- DEBDEC (R208)
  | sched                    -- SCHED (R170)
  | waitDec                  -- WAITDEC (R174)
  | render                   -- RENDER (R155)
  | advance                  -- ADVANCE (R177)
  | hookNone                 -- HOOK.NONE (R182)
  | hookHShift               -- HOOK.HSHIFT (R183)
  | hookVShift               -- HOOK.VSHIFT (R184)
  | hookStar                 -- HOOK.STAR (R135)
  | reload                   -- RELOAD (R186)
  | lfsrStep                 -- LFSRSTEP (R132)
  | lfsrDraw                 -- LFSRDRAW (R134)
  | edge (l : Bool)          -- EDGE l, l the level the handler reads, true = 1 = high (R200)
  | switch                   -- SWITCH (R190)
  | reset                    -- RESET (R236)
  deriving DecidableEq, Repr

/-- The classes of R94: sequencer step, external event, micro-operation. -/
inductive OpClass where
  | S | E | M
  deriving DecidableEq, Repr

/-- A program's update hook (R62, R101, R181). -/
inductive Hook where
  | none | horizontalShift | verticalShift | starfield
  deriving DecidableEq, Repr, Inhabited

/-- A descriptor of the ProgramTable: exactly five fields (R62). -/
structure Descriptor where
  frameCount : BitVec 7
  isVirtual  : Bool
  frameDelay : BitVec 8
  updateHook : Hook
  frames     : List Frame
  deriving DecidableEq, Repr, Inhabited

/-- The ProgramTable: `N = 7` descriptors, index 0 first (R61, R64 a). -/
abbrev ProgramTable := Vector Descriptor 7

/-- A packed table image: descriptor words, index 0 first, and the frame store (R100, R102). -/
structure PackedImage where
  descriptorWords : List (BitVec 32)
  frameStore      : List Frame
  deriving DecidableEq, Repr

/-- How a word of a trace is given to the model: as a step of a run, or as one micro-operation run alone, which is what R94 gives
the class M words for ("so that an expansion can be written down, printed and tested unit by unit"). DESIGN CHOICE, log 7, safe. -/
inductive Level where
  | top | unitTest
  deriving DecidableEq, Repr

/-- One word of a trace given to the model (R94). -/
structure TraceWord where
  level : Level
  word  : Byte
  deriving DecidableEq, Repr

end Sys2Proof
end

