-- ==== Sys2Proof/WellFormed.lean ====
section
/-! DEFINITION. Well-formedness of what the block is given: operation words (`30_encoding.md` R91, R99), the words of a trace (R94),
descriptors and tables (`20_memory.md` R64). A term of `Instr` carries its operand ranges in its type (R92). -/

namespace Sys2Proof

/-- The operand bits a format shows as `0`, by opcode (R91, R93); `none` for the reserved opcodes 0, D, E. -/
def reservedOperandMask (opcode : BitVec 4) : Option (BitVec 4) :=
  match opcode.toNat with
  | 0x0 | 0xD | 0xE => none
  | 0x1 | 0x7 => some 0b1100#4
  | 0xB => some 0b1110#4
  | _ => some 0b1111#4

/-- R99: a word is legal unless its opcode is reserved or an operand bit its format shows as `0` is 1. -/
def legalWord (w : Byte) : Bool :=
  match reservedOperandMask (w.extractLsb' 4 4) with
  | none => false
  | some m => (w.extractLsb' 0 4 &&& m) == 0#4

/-- The words of class M by opcode: 4 to A, and C (R93). -/
def microWord (w : Byte) : Bool :=
  let op := (w.extractLsb' 4 4).toNat
  (4 ≤ op && op ≤ 0xA) || op == 0xC

/-- R94: a trace holds legal words, of class S and E only; a micro-operation stands only at the level of unit tests. -/
def TraceWord.wf (t : TraceWord) : Bool :=
  legalWord t.word && (t.level == .unitTest || !microWord t.word)

/-- R64 (b): one frame if virtual, else `frameCount` frames. Clause (c), the widths, is in the types. -/
def Descriptor.wf (d : Descriptor) : Bool :=
  d.frames.length == (if d.isVirtual then 1 else d.frameCount.toNat)

/-- R64: the descriptors of a supplied table are 7 and each is well formed. -/
def tableWf (ds : List Descriptor) : Bool :=
  ds.length == 7 && ds.all Descriptor.wf

/-- R64 of a table in place. -/
abbrev ProgramTable.Wf (t : ProgramTable) : Prop :=
  ∀ i : Fin 7, t[i].wf = true

end Sys2Proof
end

