-- ==== Sys2Proof/Decode.lean ====
section
/-! DEFINITION. The decoder and the encoder of the 8-bit operation word, and what R93 says of each operation: its mnemonic, its class
and, for a sequencer step, its phase (`30_encoding.md` R90 to R95, R99; the spec's decision D2). -/

namespace Sys2Proof

/-- Why a word is illegal (R99). Both are `IllegalOperationWord` to a model (R252). -/
inductive IllegalWord where
  | reservedOpcode        -- the opcode is 0, D or E
  | reservedOperandBits   -- an operand bit the format shows as 0 is 1
  deriving DecidableEq, Repr

/-- What decoding a word gives. -/
inductive Decoded where
  | ok (i : Instr)
  | illegal (why : IllegalWord)
  deriving DecidableEq, Repr

/-- `OW[7:4]` (R90). -/
def opcodeField (w : Byte) : BitVec 4 := w.extractLsb' 4 4

/-- `OW[3:0]` (R90). -/
def operandField (w : Byte) : BitVec 4 := w.extractLsb' 0 4

/-- Format Z: no operand, the field must be zero (R91). -/
def decodeZ (f : BitVec 4) (i : Instr) : Decoded :=
  if f = 0 then .ok i else .illegal .reservedOperandBits

/-- Format Y: the row is `OW[1:0]` (R91, R92). -/
def decodeY (f : BitVec 4) : Decoded :=
  if f.extractLsb' 2 2 = 0 then .ok (.scanRow (f.extractLsb' 0 2)) else .illegal .reservedOperandBits

/-- The operation of a hook selector (R101). -/
def hookInstr (h : BitVec 2) : Instr :=
  match h.toNat with
  | 0 => .hookNone
  | 1 => .hookHShift
  | 2 => .hookVShift
  | _ => .hookStar

/-- Format H: the hook selector is `OW[1:0]` (R91, R92). -/
def decodeH (f : BitVec 4) : Decoded :=
  if f.extractLsb' 2 2 = 0 then .ok (hookInstr (f.extractLsb' 0 2)) else .illegal .reservedOperandBits

/-- Format L: the pin level is `OW[0]` (R91, R92). -/
def decodeL (f : BitVec 4) : Decoded :=
  if f.extractLsb' 1 3 = 0 then .ok (.edge (f.getLsbD 0)) else .illegal .reservedOperandBits

/-- R95, total on all 256 words. -/
def decode (w : Byte) : Decoded :=
  let f := operandField w
  match (opcodeField w).toNat with
  | 0x1 => decodeY f
  | 0x2 => decodeZ f .debDec
  | 0x3 => decodeZ f .sched
  | 0x4 => decodeZ f .waitDec
  | 0x5 => decodeZ f .render
  | 0x6 => decodeZ f .advance
  | 0x7 => decodeH f
  | 0x8 => decodeZ f .reload
  | 0x9 => decodeZ f .lfsrStep
  | 0xA => decodeZ f .lfsrDraw
  | 0xB => decodeL f
  | 0xC => decodeZ f .switch
  | 0xF => decodeZ f .reset
  | _ => .illegal .reservedOpcode

/-- The word of an operation (R93): the opcode above the operand field. -/
def encode : Instr → Byte
  | .scanRow y  => 0x1#4 ++ (0#2 ++ y)
  | .debDec     => 0x2#4 ++ 0#4
  | .sched      => 0x3#4 ++ 0#4
  | .waitDec    => 0x4#4 ++ 0#4
  | .render     => 0x5#4 ++ 0#4
  | .advance    => 0x6#4 ++ 0#4
  | .hookNone   => 0x7#4 ++ (0#2 ++ 0b00#2)
  | .hookHShift => 0x7#4 ++ (0#2 ++ 0b01#2)
  | .hookVShift => 0x7#4 ++ (0#2 ++ 0b10#2)
  | .hookStar   => 0x7#4 ++ (0#2 ++ 0b11#2)
  | .reload     => 0x8#4 ++ 0#4
  | .lfsrStep   => 0x9#4 ++ 0#4
  | .lfsrDraw   => 0xA#4 ++ 0#4
  | .edge l     => 0xB#4 ++ (0#3 ++ BitVec.ofBool l)
  | .switch     => 0xC#4 ++ 0#4
  | .reset      => 0xF#4 ++ 0#4

/-- R93's column "class". -/
def opClass : Instr → OpClass
  | .scanRow _  => .S
  | .debDec     => .S
  | .sched      => .S
  | .waitDec    => .M
  | .render     => .M
  | .advance    => .M
  | .hookNone   => .M
  | .hookHShift => .M
  | .hookVShift => .M
  | .hookStar   => .M
  | .reload     => .M
  | .lfsrStep   => .M
  | .lfsrDraw   => .M
  | .edge _     => .E
  | .switch     => .M
  | .reset      => .E

/-- The value of `SEQ` in which a class S operation is admitted (R24, R230). -/
def phaseOf : Instr → Option (Fin 6)
  | .scanRow y  => some ⟨y.toNat, by have := y.isLt; omega⟩
  | .debDec     => some 4
  | .sched      => some 5
  | .waitDec    => none
  | .render     => none
  | .advance    => none
  | .hookNone   => none
  | .hookHShift => none
  | .hookVShift => none
  | .hookStar   => none
  | .reload     => none
  | .lfsrStep   => none
  | .lfsrDraw   => none
  | .edge _     => none
  | .switch     => none
  | .reset      => none

/-- R93's column "mnemonic". -/
def mnemonic : Instr → String
  | .scanRow _  => "SCANROW"
  | .debDec     => "DEBDEC"
  | .sched      => "SCHED"
  | .waitDec    => "WAITDEC"
  | .render     => "RENDER"
  | .advance    => "ADVANCE"
  | .hookNone   => "HOOK.NONE"
  | .hookHShift => "HOOK.HSHIFT"
  | .hookVShift => "HOOK.VSHIFT"
  | .hookStar   => "HOOK.STAR"
  | .reload     => "RELOAD"
  | .lfsrStep   => "LFSRSTEP"
  | .lfsrDraw   => "LFSRDRAW"
  | .edge _     => "EDGE"
  | .switch     => "SWITCH"
  | .reset      => "RESET"

/-- A row of `opcode_table.json`: it applies exactly when `(OW & mask) == match` (R95). -/
structure OpcodeRow where
  mnemonic : String
  pattern  : Byte
  mask     : Byte
  deriving DecidableEq, Repr

def OpcodeRow.applies (r : OpcodeRow) (w : Byte) : Bool := (w &&& r.mask) == r.pattern

/-- The sixteen rows of `opcode_table.json` (R95). -/
def opcodeRows : List OpcodeRow :=
  [⟨"SCANROW", 0x10, 0xFC⟩, ⟨"DEBDEC", 0x20, 0xFF⟩, ⟨"SCHED", 0x30, 0xFF⟩, ⟨"WAITDEC", 0x40, 0xFF⟩]
  ++ [⟨"RENDER", 0x50, 0xFF⟩, ⟨"ADVANCE", 0x60, 0xFF⟩, ⟨"HOOK.NONE", 0x70, 0xFF⟩, ⟨"HOOK.HSHIFT", 0x71, 0xFF⟩]
  ++ [⟨"HOOK.VSHIFT", 0x72, 0xFF⟩, ⟨"HOOK.STAR", 0x73, 0xFF⟩, ⟨"RELOAD", 0x80, 0xFF⟩, ⟨"LFSRSTEP", 0x90, 0xFF⟩]
  ++ [⟨"LFSRDRAW", 0xA0, 0xFF⟩, ⟨"EDGE", 0xB0, 0xFE⟩, ⟨"SWITCH", 0xC0, 0xFF⟩, ⟨"RESET", 0xF0, 0xFF⟩]

/-- The operation the decoder reads from a word numbered as `opcode_table.json` numbers it: every operation is one 8-bit word (R90). -/
def decodeTableWord (nbits w : Nat) : Option Instr :=
  match decode (BitVec.ofNat 8 (w % 2 ^ nbits)) with
  | .ok i => some i
  | .illegal _ => none

end Sys2Proof
end

