-- ==== Sys2Proof/Config.lean ====
section
/-! DEFINITION. The parameters the source fixes (`00_scope.md` R7) and those it leaves open (R8): the open ones are constants with no
body, so that nothing can be proved of their values beyond what the spec says of them. -/

namespace Sys2Proof.Config

/-- `WAIT_SENTINEL`: the `waitRemaining` value that is never decremented (R7, R27). -/
def waitSentinel : BitVec 8 := 255

/-- `DEBOUNCE_RELOAD`: the lockout's length in iterations (R7, R31). -/
def debounceReload : BitVec 8 := 30

/-- `LFSR_MASK` (R7, R22). -/
def lfsrMask : LfsrWord := 0xB400

/-- `LFSR_SEED` (R7, R22). -/
def lfsrSeed : LfsrWord := 0xCAFE

/-- Where the LFSR's step function differs from the default of R131: nowhere (R8: "decided, overridable"; the spec's decision D5). Log 10. -/
def lfsrOverrides : List (LfsrWord × LfsrWord) := []

/-- The Framebuffer's reset value: the spec's decision D11 (R21, R38). Log 4. -/
def fbReset : Frame := 0x0000

/-- `ROW_HOLD_US`: microseconds; timing only, no rule depends on it (R7, R219, R300). Log 18. -/
def rowHoldMicroseconds : Nat := 500

/-- `RAWLEVEL_RESET`, open (R8, D13): true = 1. Log 3. -/
opaque rawLevelReset : Bool

/-! ## The ProgramTable, open but for R64 and R66 (D15; log 1, log 2) -/

/-- Where the horizontal-scroll program stands: some index from 1 to 6, not in the source (R66). Log 2. -/
opaque scrollSlot : Fin 6

opaque tableFrameCount : Fin 7 → BitVec 7
opaque tableIsVirtual : Fin 7 → Bool
opaque tableFrameDelay : Fin 7 → BitVec 8
opaque tableUpdateHook : Fin 7 → Hook
opaque tableFrame : Fin 7 → Nat → Frame

/-- The stored frames of program `i`: one if virtual, else `n` (R64 b). -/
def storedFrames (i : Fin 7) (isVirtual : Bool) (n : BitVec 7) : List Frame :=
  (List.range (if isVirtual then 1 else n.toNat)).map (tableFrame i)

/-- Descriptor `i`: program 0 as R66 quotes it, with hook None (DEDUCED there, log 2); the horizontal-scroll program as R66 quotes it at
its unknown index; every other field open. -/
def descriptor (i : Fin 7) : Descriptor :=
  if i = 0 then
    { frameCount := 1, isVirtual := true, frameDelay := 255, updateHook := .none, frames := storedFrames 0 true 1 }
  else if i = scrollSlot.succ then
    { frameCount := 4, isVirtual := tableIsVirtual i, frameDelay := 70, updateHook := .horizontalShift,
      frames := storedFrames i (tableIsVirtual i) 4 }
  else
    { frameCount := tableFrameCount i, isVirtual := tableIsVirtual i, frameDelay := tableFrameDelay i,
      updateHook := tableUpdateHook i, frames := storedFrames i (tableIsVirtual i) (tableFrameCount i) }

/-- The table in the program storage when the block is reset (R61, R284 a). -/
def programTable : ProgramTable :=
  #v[descriptor 0, descriptor 1, descriptor 2, descriptor 3, descriptor 4, descriptor 5, descriptor 6]

/-! ## Free values -/

/-- What a frame read outside `frames` gives: the spec defines none (R72). A function of what is read, since a read is idempotent and
the same in every state (R68, R77). No run over a well-formed table from an invariant state reads it. Log 9. -/
opaque frameOutside (t : ProgramTable) (i : Fin 7) (j : Nat) : Frame

/-- What `WAITDEC` leaves when `waitRemaining` is 0, outside its precondition (R174): a fresh value each time. Log 8. -/
opaque waitBelowZero : Nat → BitVec 8

end Sys2Proof.Config
end

