-- ==== Sys2Proof/Machine/State.lean ====
section
/-! DEFINITION. The state: the spec's eleven registers (`10_state.md` R20), the parameters and the output trace carried as plain
data (R34), and the words the environment has placed (`30_encoding.md` R94). Beside it the refusals (`60_exceptions.md` R252). -/

namespace Sys2Proof.Machine

/-- The block has no synchronous exception, no fault and no trap (R13, R250): there is no fault reason. -/
inductive Fault where
  deriving DecidableEq, Repr

/-- The refusals of a model (R252): outcomes of the model on inputs the block could never meet. Each is safe: a refused input has no
next state, so it removes runs and supplies no value. -/
inductive Refusal where
  /-- Raised by an arm of `exec` whose instruction has no meaning yet; no arm raises it. Safe. -/
  | notModelled (mnemonic : String)
  /-- Code 1, raised by `step` on a word `decode` calls illegal (R99). Safe. -/
  | illegalOperationWord
  /-- Code 2, raised by `step` on a class M word that stands as a step of a trace (R94). Safe. -/
  | microOpAtTopLevel
  /-- Code 3, raised by the meanings of SCANROW, DEBDEC and SCHED where `SEQ` is not the operation's phase (R94, R24). Safe. -/
  | outOfSequence
  /-- Code 4, raised by `supplyTable` and `supplyImage`, never by a step (R253). Safe. -/
  | malformedTable
  deriving DecidableEq, Repr

structure State where
  /-- `FB`, 16 bits (R21). -/
  fb : Frame
  /-- `LFSR`, 16 bits (R22). -/
  lfsr : LfsrWord
  /-- `starPhase`, 0 to 4 (R32). -/
  starPhase : Fin 5
  /-- `programIndex`, 0 to 6 (R25). -/
  programIndex : Fin 7
  /-- `frameIndex`, 7 bits (R26). -/
  frameIndex : BitVec 7
  /-- `waitRemaining`, 8 bits (R27). -/
  waitRemaining : BitVec 8
  /-- `xShift`, 2 bits (R28). -/
  xShift : BitVec 2
  /-- `yShift`, 2 bits (R29). -/
  yShift : BitVec 2
  /-- `prevRawLevel`, 1 bit, true = 1 = high (R30). -/
  prevRawLevel : Bool
  /-- `debounceCountdown`, 8 bits (R31). -/
  debounceCountdown : BitVec 8
  /-- `SEQ`, 0 to 5 (R24). -/
  seq : Fin 6
  /-- `OUT`, the bytes given to `Send`, oldest first: an observation (R34, R70). Log 5. -/
  out : List Byte
  /-- `PT`, the ProgramTable: a parameter, written by no step (R34, R77). Log 1. -/
  table : ProgramTable
  /-- `RAWLEVEL_RESET`: a parameter, written by no step (R34, D13). Log 3. -/
  rawLevelReset : Bool
  /-- Where the LFSR's step function differs from its default, as pairs of a value and its successor: a parameter, written by no step
  (R8, R34, R131). Log 10. -/
  lfsrOverrides : List (LfsrWord × LfsrWord)
  /-- The operation words placed by the environment and not taken yet, oldest first (R94): the model's own field. Log 6. -/
  input : List TraceWord
  /-- How many free values have been drawn: the model's own field. Log 8. -/
  freeDraws : Nat
  deriving DecidableEq, Repr

/-- The state after `RESET` with an empty trace (R38). The table, `RAWLEVEL_RESET` and the LFSR's step function are parameters (log 1, log 3, log 10); the words
of the environment are placed from outside (log 6). -/
def State.reset : State where
  fb := Config.fbReset
  lfsr := Config.lfsrSeed
  starPhase := 0
  programIndex := 0
  frameIndex := 0
  waitRemaining := 0
  xShift := 0
  yShift := 0
  prevRawLevel := Config.rawLevelReset
  debounceCountdown := 0
  seq := 0
  out := []
  table := Config.programTable
  rawLevelReset := Config.rawLevelReset
  lfsrOverrides := Config.lfsrOverrides
  input := []
  freeDraws := 0

end Sys2Proof.Machine
end

