-- ==== Sys2Proof/Machine/Ops.lean ====
section
/-! DEFINITION. The named operations the meanings share: the access primitives of `20_memory.md` R67, R68, R70, the admission of a
sequencer step (`30_encoding.md` R94), the interrupt's entry and return (`60_exceptions.md` R258, R259). -/

namespace Sys2Proof.Machine

/-- What an operation answers. -/
abbrev Outcome := Host.Outcome State Fault Refusal

/-- The codes of R252; none for a refusal that is not of R252. -/
def Refusal.code (r : Refusal) : Option Nat :=
  if r = .illegalOperationWord then some 1
  else if r = .microOpAtTopLevel then some 2
  else if r = .outOfSequence then some 3
  else if r = .malformedTable then some 4
  else none

/-- `PT[programIndex]`, the selected program's descriptor (R67). -/
def selected (s : State) : Descriptor := s.table[s.programIndex]

/-- `FrameRead(i, j)`: the frame `PT[i].frames[j]` (R68); outside `frames` a free value (R72, log 9). -/
def frameRead (t : ProgramTable) (i : Fin 7) (j : Nat) : Frame :=
  (t[i].frames[j]?).getD (Config.frameOutside t i j)

/-- `Send(b)`: appends `b` to `OUT` and changes no register (R70). -/
def send (b : Byte) (s : State) : State := { s with out := s.out ++ [b] }

/-- `SEQ <- v` (R11). -/
def setSeq (v : Fin 6) (s : State) : State := { s with seq := v }

/-- A class S operation is admitted only where `SEQ` is its phase (R94); elsewhere it is refused with reason 3 (R252). -/
def admitAt (phase : Fin 6) (s : State) (next : State) : Outcome :=
  if s.seq = phase then .next next else .refused .outOfSequence

/-- Taking the interrupt saves nothing in the block's state and changes nothing in it (R258). -/
def interruptEntry (s : State) : State := s

/-- The handler returns to the sequencer step that was next: nothing to restore (R259). -/
def interruptReturn (s : State) : State := s

end Sys2Proof.Machine
end

