-- ==== Sys2Proof/Machine/Operands.lean ====
section
/-! DEFINITION. Operand forms and the data words the operations read and build: rows of a frame (`20_memory.md` R63), the drive word
(`44_scan_multiplexer.md` R216), the lamp position (`30_encoding.md` R105), the source frame number (`20_memory.md` R68). -/

namespace Sys2Proof.Machine

/-- Row `r` of a frame: the nibble in bits `4r+3:4r` (R63). -/
def rowOf (f : Frame) (r : BitVec 2) : Nibble := f.extractLsb' (4 * r.toNat) 4

/-- The frame with these rows, row 0 in the least significant nibble (R63). -/
def assembleRows (rows : BitVec 2 → Nibble) : Frame := rows 3 ++ rows 2 ++ rows 1 ++ rows 0

/-- The select nibble: all bits 1 except bit `y` (R215, R104). -/
def selectNibble (y : BitVec 2) : Nibble := ~~~(1#4 <<< y.toNat)

/-- The drive word: select nibble above data nibble, data not inverted (R216; the spec's decision D7, log 23). -/
def driveWord (fb : Frame) (y : BitVec 2) : Byte := selectNibble y ++ rowOf fb y

/-- The Framebuffer value with only lamp `p` set (R105). -/
def lampBit (p : BitVec 4) : Frame := 1#16 <<< p.toNat

/-- The number of the source frame: 0 for a virtual program, else `frameIndex` (R68). -/
def sourceFrameNumber (d : Descriptor) (frameIndex : BitVec 7) : Nat :=
  if d.isVirtual then 0 else frameIndex.toNat

/-- The shift a hook takes from the frame cursor: its low two bits (R183, R184). -/
def shiftOf (frameIndex : BitVec 7) : BitVec 2 := frameIndex.extractLsb' 0 2

/-- The value of `SEQ` after `SCANROW y`: `y + 1` (R215). -/
def phaseAfterRow (y : BitVec 2) : Fin 6 := ⟨y.toNat + 1, by have := y.isLt; omega⟩

/-- The value of `SEQ` in which `SCANROW y` is admitted: `y` (R24). -/
def phaseOfRow (y : BitVec 2) : Fin 6 := ⟨y.toNat, by have := y.isLt; omega⟩

end Sys2Proof.Machine
end

