-- ==== Sys2Proof/Machine/Flags.lean ====
section
/-! DEFINITION. The block stores no flag (`10_state.md` R33). The three one-bit conditions its rules test are computed where they are
used; they stand here. -/

namespace Sys2Proof.Machine

/-- `waitRemaining > 0` (R170). -/
def waiting (s : State) : Bool := s.waitRemaining != 0

/-- `debounceCountdown > 0`: inside the lockout (R31, R200). -/
def lockedOut (s : State) : Bool := s.debounceCountdown != 0

/-- `pressed = previousRawLevel AND NOT currentRawLevel` (R30, R200). -/
def pressed (s : State) (l : Bool) : Bool := s.prevRawLevel && !l

end Sys2Proof.Machine
end

