-- ==== Sys2Proof/Machine/Lfsr.lean ====
section
/-! DEFINITION. The LFSR-based update generator: LFSRSTEP, LFSRDRAW, HOOK.STAR (`40_lfsr_update_generator.md`). The step function is a
parameter (R34, R131), carried in the state as plain data: where it differs from the default. -/

namespace Sys2Proof.Machine

/-- The default step function: Galois, shifting right, mask exclusive-ored in when bit 0 was 1 (R131; the spec's decision D5, from general
knowledge; log 10). -/
def lfsrStep (v : LfsrWord) : LfsrWord :=
  let t := v >>> 1
  if v.getLsbD 0 then t ^^^ Config.lfsrMask else t

/-- The step function in force: the default, but for the values listed (R8, R131; log 10). -/
def lfsrStepBy (overrides : List (LfsrWord × LfsrWord)) (v : LfsrWord) : LfsrWord := (overrides.lookup v).getD (lfsrStep v)

/-- Every value with its successor under `f`: the overrides that put `f` in force (R131: "a model should take `lfsrStep` as a configuration
function"). Irreducible, so that no unification runs through its 65536 entries. -/
@[irreducible] def overridesOf (f : LfsrWord → LfsrWord) : List (LfsrWord × LfsrWord) :=
  (List.range (2 ^ 16)).map fun n => (BitVec.ofNat 16 n, f (BitVec.ofNat 16 n))

/-- Choosing the step function from outside the machine, as a table is supplied (R8). -/
def chooseLfsrStep (f : LfsrWord → LfsrWord) (s : State) : State := { s with lfsrOverrides := overridesOf f }

/-- `LFSR <- lfsrStep(LFSR)`, by the step function in force (R132). -/
def stepLfsr (s : State) : State := { s with lfsr := lfsrStepBy s.lfsrOverrides s.lfsr }

/-- Four steps of the LFSR, `LFSR_STEPS_PER_DRAW = 4` (R134). -/
def drawLfsr (s : State) : State := stepLfsr (stepLfsr (stepLfsr (stepLfsr s)))

/-- The position a draw yields: `LFSR[3:0]` of the value after the fourth step (R134). -/
def drawnPosition (s : State) : BitVec 4 := s.lfsr.extractLsb' 0 4

/-- Light the drawn lamp alone: `FB <- 1 << p` (R135). -/
def lightDrawnLamp (s : State) : State := { s with fb := lampBit (drawnPosition s) }

/-- Starfield phase 0: draw a position and light its lamp alone (R135). -/
def starFlash (s : State) : State := lightDrawnLamp (drawLfsr s)

/-- Starfield phase 1: `FB <- 0` (R135). -/
def clearFb (s : State) : State := { s with fb := 0 }

/-- What the Starfield hook does to `FB` and `LFSR` in its phase: flash, clear, or nothing (R135, R136). -/
def starAction (s : State) : State :=
  match s.starPhase.val with
  | 0 => starFlash s
  | 1 => clearFb s
  | _ => s

/-- `starPhase <- (starPhase + 1) mod 5` (R135). -/
def stepStarPhase (s : State) : State := { s with starPhase := s.starPhase + 1 }

/-- The Starfield hook: the phase's action, then `starPhase <- (starPhase + 1) mod 5` (R135). -/
def starHook (s : State) : State := stepStarPhase (starAction s)

/-- LFSRSTEP (R132). -/
def execLfsrStep (s : State) : Outcome := .next (stepLfsr s)

/-- LFSRDRAW (R134). The position it yields is `drawnPosition` of the next state; the block has no register for it (R20; log 11). -/
def execLfsrDraw (s : State) : Outcome := .next (drawLfsr s)

/-- HOOK.STAR (R135). -/
def execHookStar (s : State) : Outcome := .next (starHook s)

end Sys2Proof.Machine
end

