-- ==== Sys2Proof/Machine/Transform.lean ====
section
/-! DEFINITION. The bitmap shift/rotate transform unit: `rotl4`, `xform`, RENDER (`41_transform_unit.md`). -/

namespace Sys2Proof.Machine

/-- `rotl4(row, k)`: circular left rotation of a 4-bit value, by the source's formula on a wider value, so that `k = 0` shifts right by
4 within 8 bits (R150, R151). -/
def rotl4 (row : Nibble) (k : BitVec 2) : Nibble :=
  let wide : BitVec 8 := row.setWidth 8
  (((wide >>> (4 - k.toNat)) ||| ((wide <<< k.toNat) &&& 0xF)) &&& 0xF).setWidth 4

/-- `rowsel(src, y, ys)`: the stored row `(y + ys) mod 4` (R153). -/
def rowsel (src : Frame) (y ys : BitVec 2) : Nibble := rowOf src (y + ys)

/-- `xform(src, xs, ys)`: the rows rotated cyclically by `ys` and each rotated left by `xs` (R153). -/
def xform (src : Frame) (xs ys : BitVec 2) : Frame :=
  assembleRows fun y => rotl4 (rowsel src y ys) xs

/-- The source frame of the selected program at the frame cursor (R155, R68). -/
def sourceFrame (s : State) : Frame :=
  frameRead s.table s.programIndex (sourceFrameNumber (selected s) s.frameIndex)

/-- `FB <- xform(src, xShift, yShift)`, one 16-bit write (R155). -/
def render (s : State) : State := { s with fb := xform (sourceFrame s) s.xShift s.yShift }

/-- RENDER (R155). -/
def execRender (s : State) : Outcome := .next (render s)

end Sys2Proof.Machine
end

