-- ==== Sys2Proof/Machine/Scheduler.lean ====
section
/-! DEFINITION. The animation scheduler: WAITDEC, ADVANCE, the hooks, RELOAD, SWITCH and the step SCHED (`42_scheduler.md`). -/

namespace Sys2Proof.Machine

/-- Count down one iteration of waiting: 255 is left alone (R174). At 0, outside the precondition, the value left is free (log 8). -/
def countWait (s : State) : State :=
  if s.waitRemaining = 0 then
    { s with waitRemaining := Config.waitBelowZero s.freeDraws, freeDraws := s.freeDraws + 1 }
  else if s.waitRemaining = Config.waitSentinel then s
  else { s with waitRemaining := s.waitRemaining - 1 }

/-- The frame cursor after one step: `(frameIndex + 1) mod n`, and 0 for `n = 0` (R177, R178; the spec's decision D9). -/
def nextFrame (n frameIndex : BitVec 7) : BitVec 7 :=
  if n = 0 then 0 else BitVec.ofNat 7 ((frameIndex.toNat + 1) % n.toNat)

/-- Step the frame cursor (R177). -/
def advanceFrame (s : State) : State := { s with frameIndex := nextFrame (selected s).frameCount s.frameIndex }

/-- No hook (R182). -/
def noHook (s : State) : State := s

/-- `xShift <- frameIndex[1:0]` (R183). -/
def horizontalHook (s : State) : State := { s with xShift := shiftOf s.frameIndex }

/-- `yShift <- frameIndex[1:0]` (R184). -/
def verticalHook (s : State) : State := { s with yShift := shiftOf s.frameIndex }

/-- `waitRemaining <- PT[programIndex].frameDelay` (R186). -/
def reloadWait (s : State) : State := { s with waitRemaining := (selected s).frameDelay }

/-- Select the next program, index 6 going to index 0, with its schedule cleared (R190). -/
def switchProgram (s : State) : State :=
  { s with programIndex := s.programIndex + 1, waitRemaining := 0, frameIndex := 0, xShift := 0, yShift := 0 }

/-- The hook of the selected program: exactly one of four (R171, R181). -/
def runHook (h : Hook) (s : State) : State :=
  match h with
  | .none => noHook s
  | .horizontalShift => horizontalHook s
  | .verticalShift => verticalHook s
  | .starfield => starHook s

/-- The render of a fire: skipped when `frameCount == 0` (R171, R178). -/
def renderIfAny (d : Descriptor) (s : State) : State := if d.frameCount = 0 then s else render s

/-- FIRE: one descriptor read, then render, advance, hook, reload, in this order (R171). -/
def fire (s : State) : State :=
  let d := selected s
  reloadWait (runHook d.updateHook (advanceFrame (renderIfAny d s)))

/-- The scheduler's work of one iteration: count the wait down, or fire (R170). -/
def schedule (s : State) : State := if waiting s then countWait s else fire s

/-- WAITDEC (R174). -/
def execWaitDec (s : State) : Outcome := .next (countWait s)

/-- ADVANCE (R177). -/
def execAdvance (s : State) : Outcome := .next (advanceFrame s)

/-- HOOK.NONE (R182). -/
def execHookNone (s : State) : Outcome := .next (noHook s)

/-- HOOK.HSHIFT (R183). -/
def execHookHShift (s : State) : Outcome := .next (horizontalHook s)

/-- HOOK.VSHIFT (R184). -/
def execHookVShift (s : State) : Outcome := .next (verticalHook s)

/-- RELOAD (R186). -/
def execReload (s : State) : Outcome := .next (reloadWait s)

/-- SWITCH (R190). -/
def execSwitch (s : State) : Outcome := .next (switchProgram s)

/-- SCHED, admitted where `SEQ == 5`; the whole step is atomic (R170). -/
def execSched (s : State) : Outcome := admitAt 5 s (setSeq 0 (schedule s))

end Sys2Proof.Machine
end

