-- ==== Sys2Proof/Machine/Debouncer.lean ====
section
/-! DEFINITION. The input debouncer: the interrupt handler EDGE and the sequencer step DEBDEC (`43_input_debouncer.md`). -/

namespace Sys2Proof.Machine

/-- What a recognised press does: the switch, and the lockout starts (R200). -/
def acceptPress (s : State) : State :=
  { switchProgram s with debounceCountdown := Config.debounceReload }

/-- `prevRawLevel <- l` (R200). -/
def rememberLevel (l : Bool) (s : State) : State := { s with prevRawLevel := l }

/-- The handler's work: inside a lockout nothing at all (R201); otherwise a press switches programs, and the remembered level is updated
whether or not there was a press (R200). -/
def handleEdge (l : Bool) (s : State) : State :=
  if lockedOut s then s
  else rememberLevel l (if pressed s l then acceptPress s else s)

/-- The lockout's countdown, which stops at 0 (R208). -/
def countLockout (s : State) : State :=
  if lockedOut s then { s with debounceCountdown := s.debounceCountdown - 1 } else s

/-- EDGE l: the interrupt's entry, the handler, its return, one atomic step (R200, R258, R259). -/
def execEdge (l : Bool) (s : State) : Outcome := .next (interruptReturn (handleEdge l (interruptEntry s)))

/-- DEBDEC, admitted where `SEQ == 4` (R208). -/
def execDebDec (s : State) : Outcome := admitAt 4 s (setSeq 5 (countLockout s))

end Sys2Proof.Machine
end

