-- ==== Sys2Proof/Machine/Scan.lean ====
section
/-! DEFINITION. The scan multiplexer: SCANROW (`44_scan_multiplexer.md`). -/

namespace Sys2Proof.Machine

/-- Drive row `y`: one `Send` of its drive word (R215). The hold after it is timing only (R219, log 18). -/
def driveRow (y : BitVec 2) (s : State) : State := send (driveWord s.fb y) s

/-- SCANROW y, admitted where `SEQ == y` (R215). -/
def execScanRow (y : BitVec 2) (s : State) : Outcome :=
  admitAt (phaseOfRow y) s (setSeq (phaseAfterRow y) (driveRow y s))

end Sys2Proof.Machine
end

