-- ==== Sys2Proof/Machine/Sequencer.lean ====
section
/-! DEFINITION. The main sequencer: the word of its next step, and RESET (`45_main_sequencer.md`). -/

namespace Sys2Proof.Machine

/-- The step admitted in a state is the one whose number is `SEQ` (R230); its operation word (R93). -/
def sequencerWord (k : Fin 6) : Byte :=
  match k.val with
  | 0 => 0x10
  | 1 => 0x11
  | 2 => 0x12
  | 3 => 0x13
  | 4 => 0x20
  | _ => 0x30

/-- Every register at its reset value (R236, R38). `OUT` is an observation and is not cleared; the parameters, the words not taken yet and
the count of free values are not the block's registers. -/
def resetRegisters (s : State) : State :=
  { s with
    fb := Config.fbReset, lfsr := Config.lfsrSeed, starPhase := 0, programIndex := 0, frameIndex := 0, waitRemaining := 0,
    xShift := 0, yShift := 0, prevRawLevel := s.rawLevelReset, debounceCountdown := 0, seq := 0 }

/-- RESET, admitted in every state (R236; the spec's decision D23). -/
def execReset (s : State) : Outcome := .next (resetRegisters s)

end Sys2Proof.Machine
end

