-- ==== Sys2Proof/Machine/Dispatch.lean ====
section
/-! DEFINITION. One arm per operation of `opcode_table.json`. -/

namespace Sys2Proof.Machine

def exec (i : Instr) (s : State) : Host.Outcome State Fault Refusal :=
  match i with
  | .scanRow y => Sys2Proof.Machine.execScanRow y s
  | .debDec => Sys2Proof.Machine.execDebDec s
  | .sched => Sys2Proof.Machine.execSched s
  | .waitDec => Sys2Proof.Machine.execWaitDec s
  | .render => Sys2Proof.Machine.execRender s
  | .advance => Sys2Proof.Machine.execAdvance s
  | .hookNone => Sys2Proof.Machine.execHookNone s
  | .hookHShift => Sys2Proof.Machine.execHookHShift s
  | .hookVShift => Sys2Proof.Machine.execHookVShift s
  | .hookStar => Sys2Proof.Machine.execHookStar s
  | .reload => Sys2Proof.Machine.execReload s
  | .lfsrStep => Sys2Proof.Machine.execLfsrStep s
  | .lfsrDraw => Sys2Proof.Machine.execLfsrDraw s
  | .edge l => Sys2Proof.Machine.execEdge l s
  | .switch => Sys2Proof.Machine.execSwitch s
  | .reset => Sys2Proof.Machine.execReset s

end Sys2Proof.Machine
end

