-- ==== Sys2Proof/Machine/Take.lean ====
section
/-! DEFINITION. Fetching the next operation word and taking it (`30_encoding.md` R94, `45_main_sequencer.md` R230, log 6, log 7). -/

namespace Sys2Proof.Machine

/-- The word the block takes next: the oldest word the environment placed, or, where there is none, the main sequencer's own next step. -/
def nextWord (s : State) : TraceWord :=
  match s.input with
  | [] => ⟨.top, sequencerWord s.seq⟩
  | w :: _ => w

/-- The state once that word is fetched: a placed word leaves the queue, and nothing else changes. -/
def afterFetch (s : State) : State := { s with input := s.input.tail }

/-- R94: a class M word is refused as a step of a trace; at the level of unit tests it is admitted. -/
def admittedAtLevel (l : Level) (i : Instr) : Bool := l == .unitTest || opClass i != .M

/-- Take one word: an illegal word is refused with reason 1, a class M word at the top level with reason 2 (R252); otherwise the
operation runs. -/
def takeWord (w : TraceWord) (s : State) : Outcome :=
  match decode w.word with
  | .illegal _ => .refused .illegalOperationWord
  | .ok i => if admittedAtLevel w.level i then exec i s else .refused .microOpAtTopLevel

/-- The level at which an operation is taken: a micro-operation alone only as a unit test (R94). -/
def levelOf (i : Instr) : Level := if opClass i = .M then .unitTest else .top

/-- The word of an operation at that level. -/
def traceWordOf (i : Instr) : TraceWord := ⟨levelOf i, encode i⟩

/-- `s` with word `w` placed as the next one to be taken, at the level its operation is taken at and, for a sequencer step, in the phase
in which it is admitted (R94). Log 24. -/
def placeWord (w : Byte) (s : State) : State :=
  match decode w with
  | .illegal _ => { s with input := ⟨.top, w⟩ :: s.input }
  | .ok i => { s with input := ⟨levelOf i, w⟩ :: s.input, seq := (phaseOf i).getD s.seq }

end Sys2Proof.Machine
end

