-- ==== Sys2Proof/Machine/Step.lean ====
section
/-! DEFINITION. One step of the machine (`00_scope.md` R12, R13): the next word is fetched, decoded and taken. -/

namespace Sys2Proof.Machine

/-- One step: fetch, decode, take. -/
def step (s : State) : Host.Outcome State Fault Refusal := takeWord (nextWord s) (afterFetch s)

/-- `s` with the operation word `w` placed where `step` fetches it (every operation is one 8-bit word, R90). -/
def State.withFetchWord (s : State) (nbits w : Nat) : State := placeWord (BitVec.ofNat 8 (w % 2 ^ nbits)) s

/-- `k` steps in a row, stopping at a refusal. -/
def run : Nat → State → Host.Outcome State Fault Refusal
  | 0, s => .next s
  | k + 1, s =>
    match step s with
    | .next t => run k t
    | .fault r => .fault r
    | .refused r => .refused r

end Sys2Proof.Machine
end

