-- ==== Sys2Proof/Machine/Ports.lean ====
section
/-! DEFINITION. The signal-level interface (`30_encoding.md` R110; the spec's decision D21): it restates the primitives and adds no
behaviour. -/

namespace Sys2Proof.Machine

/-- The table address on the outputs `pt_index[2:0]` and `frame_index[6:0]`. -/
structure TableAddress where
  ptIndex    : BitVec 3
  frameIndex : BitVec 7
  deriving DecidableEq, Repr

/-- What the program storage puts on the input `pt_data`: the descriptor's fields and one frame (R67, R68). -/
structure PtData where
  frameCount : BitVec 7
  isVirtual  : Bool
  frameDelay : BitVec 8
  updateHook : Hook
  frame      : Frame
  deriving DecidableEq, Repr

/-- The inputs between two sequencer steps: `rst`, `btn_edge` with `btn_level` (here the level of one notification if there is one), and
`pt_data`. -/
structure PinInputs where
  rst     : Bool
  btnEdge : Option Bool
  ptData  : PtData
  deriving DecidableEq, Repr

/-- The outputs of one operation. -/
structure PortOutputs where
  address     : TableAddress
  driveStrobe : Bool
  driveWord   : Byte
  deriving DecidableEq, Repr

/-- One `EDGE btn_level` per notification, and `RESET` last, so that it wins over anything it coincides with (R110, R257). -/
def PinInputs.ops (p : PinInputs) : List Instr :=
  (match p.btnEdge with | some l => [.edge l] | none => []) ++ (if p.rst then [.reset] else [])

/-- The words the inputs place, after those already placed. -/
def State.arrive (s : State) (p : PinInputs) : State :=
  { s with input := s.input ++ p.ops.map traceWordOf }

/-- The table address a state puts out: `programIndex`, and 0 for a virtual program, else `frameIndex` (R110, R68). -/
def tableAddress (s : State) : TableAddress :=
  { ptIndex := BitVec.ofNat 3 s.programIndex.val
    frameIndex := if (selected s).isVirtual then 0 else s.frameIndex }

/-- What the storage answers at an address: `PT[i]` and `FrameRead(i, j)` (R110, R264); nothing at index 7, which is no program (R72). -/
def ptAnswer (t : ProgramTable) (a : TableAddress) : Option PtData :=
  if h : a.ptIndex.toNat < 7 then
    let i : Fin 7 := ⟨a.ptIndex.toNat, h⟩
    some
      { frameCount := t[i].frameCount, isVirtual := t[i].isVirtual, frameDelay := t[i].frameDelay, updateHook := t[i].updateHook
        frame := frameRead t i a.frameIndex.toNat }
  else none

/-- `pt_data` holds the storage's answer at the address the block puts out. -/
def PinInputs.answers (p : PinInputs) (s : State) : Bool := ptAnswer s.table (tableAddress s) == some p.ptData

/-! ## The operations that read the table, from what stands on `pt_data` -/

/-- RENDER from `pt_data` (R155). -/
def renderFrom (d : PtData) (s : State) : State := { s with fb := xform d.frame s.xShift s.yShift }

/-- ADVANCE from `pt_data` (R177). -/
def advanceFrom (d : PtData) (s : State) : State := { s with frameIndex := nextFrame d.frameCount s.frameIndex }

/-- RELOAD from `pt_data` (R186). -/
def reloadFrom (d : PtData) (s : State) : State := { s with waitRemaining := d.frameDelay }

/-- A fire from `pt_data`: one descriptor read, used by all its parts, and one frame read, before the advance (R171). -/
def fireFrom (d : PtData) (s : State) : State :=
  reloadFrom d (runHook d.updateHook (advanceFrom d (if d.frameCount = 0 then s else renderFrom d s)))

/-- An operation whose table reads are answered by `pt_data`; the others read no table. -/
def execFrom (d : PtData) (i : Instr) (s : State) : Outcome :=
  match i with
  | .scanRow y  => exec (.scanRow y) s
  | .debDec     => exec .debDec s
  | .sched      => admitAt 5 s (setSeq 0 (if waiting s then countWait s else fireFrom d s))
  | .waitDec    => exec .waitDec s
  | .render     => .next (renderFrom d s)
  | .advance    => .next (advanceFrom d s)
  | .hookNone   => exec .hookNone s
  | .hookHShift => exec .hookHShift s
  | .hookVShift => exec .hookVShift s
  | .hookStar   => exec .hookStar s
  | .reload     => .next (reloadFrom d s)
  | .lfsrStep   => exec .lfsrStep s
  | .lfsrDraw   => exec .lfsrDraw s
  | .edge l     => exec (.edge l) s
  | .switch     => exec .switch s
  | .reset      => exec .reset s

/-! ## Outputs -/

/-- The outputs without a strobe: the drive word carries nothing and stands as 0. DESIGN CHOICE, log 21. -/
def quietOutputs (s : State) : PortOutputs := ⟨tableAddress s, false, 0⟩

/-- The outputs while operation `i` is taken in state `s`: one strobe per `Send`, with its drive word; a SCANROW that is not admitted
sends nothing (R110, R70, R215). -/
def portOutputs (i : Instr) (s : State) : PortOutputs :=
  match i with
  | .scanRow y => if s.seq = phaseOfRow y then ⟨tableAddress s, true, driveWord s.fb y⟩ else quietOutputs s
  | _ => quietOutputs s

/-- One step seen at the ports: the inputs arrive, the next word is taken with its table reads answered by `pt_data`, and the outputs are
those of its operation (R110). -/
def portStep (p : PinInputs) (s : State) : PortOutputs × Outcome :=
  let w := nextWord (s.arrive p)
  let u := afterFetch (s.arrive p)
  match decode w.word with
  | .illegal _ => (quietOutputs u, .refused .illegalOperationWord)
  | .ok i =>
    if admittedAtLevel w.level i then (portOutputs i u, execFrom p.ptData i u)
    else (quietOutputs u, .refused .microOpAtTopLevel)

end Sys2Proof.Machine
end

