-- ==== Sys2Proof/Machine/Table.lean ====
section
/-! DEFINITION. Supplying a ProgramTable from outside the machine (`70_reset_and_hazards.md` R284 a): well-formedness is decided once, when
the table is supplied (`20_memory.md` R64, `60_exceptions.md` R253). Beside it the packed image (`30_encoding.md` R100 to R102). -/

namespace Sys2Proof.Machine

/-- A well-formed table becomes the table; any other is refused with reason 4 (R253). -/
def supplyTable (ds : List Descriptor) (s : State) : Outcome :=
  if tableWf ds then
    if h : ds.toArray.size = 7 then .next { s with table := ⟨ds.toArray, h⟩ } else .refused .malformedTable
  else .refused .malformedTable

/-- The code of a hook (R101). -/
def hookCode : Hook → BitVec 2
  | .none => 0b00
  | .horizontalShift => 0b01
  | .verticalShift => 0b10
  | .starfield => 0b11

/-- The hook of a code; all four codes are used (R101). -/
def hookOfCode (c : BitVec 2) : Hook :=
  match c.toNat with
  | 0 => .none
  | 1 => .horizontalShift
  | 2 => .verticalShift
  | _ => .starfield

/-- The descriptor word of a descriptor whose first frame has index `frameBase` in the frame store (R100). -/
def packDescriptor (d : Descriptor) (frameBase : Byte) : BitVec 32 :=
  frameBase ++ 0#6 ++ hookCode d.updateHook ++ d.frameDelay ++ BitVec.ofBool d.isVirtual ++ d.frameCount

/-- How many frames a descriptor word's program stores (R102). -/
def storedCount (dw : BitVec 32) : Nat := if dw.getLsbD 7 then 1 else (dw.extractLsb' 0 7).toNat

/-- A descriptor word's frames `FS[frameBase + j]`; none where an index is 256 or more or outside the store supplied (R102, log 15). -/
def unpackFrames (fs : List Frame) (dw : BitVec 32) : Option (List Frame) :=
  let base := (dw.extractLsb' 24 8).toNat
  if base + storedCount dw ≤ 256 then (List.range (storedCount dw)).mapM fun j => fs[base + j]? else none

/-- A descriptor word unpacked; none where its reserved field is not zero (R100) or a frame is missing (R102). -/
def unpackDescriptor (fs : List Frame) (dw : BitVec 32) : Option Descriptor :=
  if dw.extractLsb' 18 6 = 0 then
    (unpackFrames fs dw).map fun frames =>
      { frameCount := dw.extractLsb' 0 7, isVirtual := dw.getLsbD 7, frameDelay := dw.extractLsb' 8 8,
        updateHook := hookOfCode (dw.extractLsb' 16 2), frames := frames }
  else none

/-- The descriptors of a packed image, whose frame store holds at most 256 words (R102). -/
def unpackImage (img : PackedImage) : Option (List Descriptor) :=
  if img.frameStore.length ≤ 256 then img.descriptorWords.mapM (unpackDescriptor img.frameStore) else none

/-- A packed image becomes the table, or is refused with reason 4 (R100, R102, R253). -/
def supplyImage (img : PackedImage) (s : State) : Outcome :=
  match unpackImage img with
  | some ds => supplyTable ds s
  | none => .refused .malformedTable

end Sys2Proof.Machine
end

