-- ==== Sys2Proof/Machine/TraceText.lean ====
section
/-! DEFINITION. Traces as text and the pseudo-operations (`30_encoding.md` R107, R108; the spec's decision D22). -/

namespace Sys2Proof.Machine

/-- The pseudo-operations that do not depend on the state (R108). -/
inductive Pseudo where
  | scan | iter (n : Nat) | press | release
  deriving DecidableEq, Repr

/-- `SCAN`: one refresh pass (R108, R220). -/
def scanOps : List Instr := [.scanRow 0, .scanRow 1, .scanRow 2, .scanRow 3]

/-- `ITER`: one iteration of the main sequencer (R108, R230). -/
def iterOps : List Instr := scanOps ++ [.debDec, .sched]

/-- The expansion of a pseudo-operation (R108); `iter n` is `ITER * n`. -/
def Pseudo.expand : Pseudo → List Instr
  | .scan => scanOps
  | .iter n => (List.replicate n iterOps).flatten
  | .press => [.edge false]
  | .release => [.edge true]

/-- The operation that runs a hook (R171). -/
def hookOp : Hook → Instr
  | .none => .hookNone
  | .horizontalShift => .hookHShift
  | .verticalShift => .hookVShift
  | .starfield => .hookStar

/-- `FIRE`: the micro-operations of a fire of the program with descriptor `d`, in order (R108, R171). -/
def fireOps (d : Descriptor) : List Instr :=
  (if d.frameCount = 0 then [] else [.render]) ++ [.advance, hookOp d.updateHook, .reload]

/-- What `SCHED` expands to in a state (R94, R170). -/
def schedOps (s : State) : List Instr := if waiting s then [.waitDec] else fireOps (selected s)

/-- The operations of a list taken one after the other, stopping at a refusal. -/
def execAll : List Instr → State → Outcome
  | [], s => .next s
  | i :: rest, s =>
    match exec i s with
    | .next t => execAll rest t
    | .fault r => .fault r
    | .refused r => .refused r

/-- One line of a trace: the mnemonic, then the operand in decimal after one space where the format has one (R107). -/
def printOp (i : Instr) : String :=
  match i with
  | .scanRow y => mnemonic i ++ " " ++ (["0", "1", "2", "3"][y.toNat]?.getD "")
  | .edge l => mnemonic i ++ (if l then " 1" else " 0")
  | _ => mnemonic i

/-- A digit's value. -/
def digit (c : Char) : Option Nat := if '0' ≤ c ∧ c ≤ '9' then some (c.toNat - '0'.toNat) else none

/-- A decimal number of at least one digit. -/
def decimal (cs : List Char) : Option Nat :=
  if cs.isEmpty then none
  else cs.foldl (fun acc c => do return 10 * (← acc) + (← digit c)) (some 0)

/-- The characters before a comment, which `;` introduces (R107). -/
def beforeComment (cs : List Char) : List Char := cs.takeWhile (· ≠ ';')

/-- The words of a line, split at spaces; runs of spaces count as one. DESIGN CHOICE, log 20. -/
def lineWords : List Char → List Char → List (List Char)
  | [], [] => []
  | cur, [] => [cur]
  | [], c :: cs => if c = ' ' then lineWords [] cs else lineWords [c] cs
  | cur, c :: cs => if c = ' ' then cur :: lineWords [] cs else lineWords (cur ++ [c]) cs

/-- The operations with no operand in the text, by mnemonic (R93, R91 formats Z and H). -/
def plainOps : List Instr :=
  [.debDec, .sched, .waitDec, .render, .advance, .hookNone, .hookHShift, .hookVShift, .hookStar, .reload, .lfsrStep, .lfsrDraw,
   .switch, .reset]

/-- A pseudo-operation with no repeat count, by name. -/
def pseudoOf (name : List Char) : Option Pseudo :=
  if name = "SCAN".toList then some .scan
  else if name = "ITER".toList then some (.iter 1)
  else if name = "PRESS".toList then some .press
  else if name = "RELEASE".toList then some .release
  else none

/-- The operations of a line that is one word: an operation with no operand or a pseudo-operation. -/
def parseName (name : List Char) : Option (List Instr) :=
  match plainOps.find? (fun i => (mnemonic i).toList == name) with
  | some i => some [i]
  | none => (pseudoOf name).map Pseudo.expand

/-- The operation of a line with an operand, formats Y and L (R91, R92). -/
def parseOperand (name operand : List Char) : Option (List Instr) :=
  match decimal operand with
  | none => none
  | some n =>
    if name = "SCANROW".toList ∧ n < 4 then some [.scanRow (BitVec.ofNat 2 n)]
    else if name = "EDGE".toList ∧ n < 2 then some [.edge (n == 1)]
    else none

/-- The operations of a line that repeats a pseudo-operation, `ITER * 30` (R107). -/
def parseRepeat (name count : List Char) : Option (List Instr) :=
  match decimal count, pseudoOf name with
  | some n, some p => some (List.replicate n p.expand).flatten
  | _, _ => none

/-- The operations a line of a trace stands for, none where it is no line of the syntax; an empty line or a comment is no operation (R107). -/
def parseLine (line : String) : Option (List Instr) :=
  match lineWords [] (beforeComment line.toList) with
  | [] => some []
  | [name] => parseName name
  | [name, operand] => parseOperand name operand
  | [name, ['*'], count] => parseRepeat name count
  | _ => none

/-- The words of a trace text, line by line. -/
def parseTrace (lines : List String) : Option (List TraceWord) :=
  (lines.mapM parseLine).map fun ops => ops.flatten.map fun i => ⟨.top, encode i⟩

end Sys2Proof.Machine
end

