-- ==== Sys2Proof/Safety.lean ====
section
/-! DEFINITION. What holds in every state of a run (`10_state.md` R36) and what a safe run is: one with no refusal
(`60_exceptions.md` R253). -/

namespace Sys2Proof.Machine

/-- R26, R36 (1): the frame cursor is below the selected program's frame count, and 0 where that is 0 (R178, `90_conflicts.md` C2). -/
def FrameInRange (s : State) : Prop :=
  ((selected s).frameCount ≠ 0 → s.frameIndex.toNat < (selected s).frameCount.toNat) ∧
  ((selected s).frameCount = 0 → s.frameIndex = 0)

/-- R133 (b): the step function in force never yields 0 from a non-zero value. -/
def AdmissibleStep (overrides : List (LfsrWord × LfsrWord)) : Prop := ∀ v, v ≠ 0 → lfsrStepBy overrides v ≠ 0

/-- The invariants of R36 that every step keeps, micro-operations run alone included: (1), (6), (8), and R64 of the table; (6) for every
admissible step function of the LFSR (R133). Clauses (2), (4), (7), (9) are in the types of `State`. -/
structure RegisterInv (s : State) : Prop where
  tableWf : s.table.Wf
  frameInRange : FrameInRange s
  lfsrNonzero : s.lfsr ≠ 0
  stepAdmissible : AdmissibleStep s.lfsrOverrides
  lockoutBounded : s.debounceCountdown.toNat ≤ 30

/-- What `FB` can hold in a run (R36, `90_conflicts.md` C5): its reset value or cleared, the transform of a stored frame, or one lamp. -/
def FbOrigin (t : ProgramTable) (fb : Frame) : Prop :=
  fb = Config.fbReset ∨ fb = 0 ∨
  (∃ (i : Fin 7) (f : Frame) (xs ys : BitVec 2), f ∈ t[i].frames ∧ fb = xform f xs ys) ∨
  (∃ p : BitVec 4, fb = lampBit p)

/-- R185: only the selected program's hook shifts, so at most one of the two shifts is ever non-zero. -/
def ShiftsMatchHook (s : State) : Prop :=
  ((selected s).updateHook ≠ .horizontalShift → s.xShift = 0) ∧
  ((selected s).updateHook ≠ .verticalShift → s.yShift = 0)

/-- Every placed word stands as a step of a trace (R94): none is a micro-operation run alone. -/
def TopLevelInput (s : State) : Prop := ∀ w ∈ s.input, w.level = .top

/-- The invariants of a run of the block itself, in which micro-operations occur only inside expansions (R94). -/
structure BlockInv (s : State) : Prop where
  registers : RegisterInv s
  topLevel : TopLevelInput s
  shifts : ShiftsMatchHook s
  fbOrigin : FbOrigin s.table s.fb

/-- A trace the block could produce from phase `k`: sequencer steps in their order, external events anywhere (R74, R94, R230). -/
def admissible : Fin 6 → List TraceWord → Bool
  | _, [] => true
  | k, w :: rest =>
    w.level == .top &&
    match decode w.word with
    | .illegal _ => false
    | .ok i =>
      match opClass i with
      | .S => phaseOf i == some k && admissible (k + 1) rest
      | .M => false
      | .E => admissible (if i = .reset then 0 else k) rest

/-- A safe run: `k` steps from `s` meet no refusal. -/
def RunsFor (k : Nat) (s : State) : Prop := ∃ t, run k s = .next t

end Sys2Proof.Machine
end

