-- ==== Sys2Proof/Certificates/Slice0/Obligations.lean ====
section
/-! DEFINITION. The statements for the provers. A statement whose docstring names a decision D<n> rests, for that part, on what the spec
decided where its source is silent; one that names a log entry rests on the model's own choice there. -/

open Sys2Proof Sys2Proof.Machine

/-! ## Encoding -/

/-- R93's twenty words (decision D2): each decodes to its operation, with the mnemonic and the class of its row, and no other word
decodes. -/
def Obligations.SpecWordsDecode : Prop :=
  ((decode 0b00010000#8 = .ok (.scanRow 0) ∧ mnemonic (.scanRow 0) = "SCANROW" ∧ opClass (.scanRow 0) = .S) ∧
   (decode 0b00010001#8 = .ok (.scanRow 1) ∧ mnemonic (.scanRow 1) = "SCANROW" ∧ opClass (.scanRow 1) = .S) ∧
   (decode 0b00010010#8 = .ok (.scanRow 2) ∧ mnemonic (.scanRow 2) = "SCANROW" ∧ opClass (.scanRow 2) = .S) ∧
   (decode 0b00010011#8 = .ok (.scanRow 3) ∧ mnemonic (.scanRow 3) = "SCANROW" ∧ opClass (.scanRow 3) = .S) ∧
   (decode 0b00100000#8 = .ok .debDec ∧ mnemonic .debDec = "DEBDEC" ∧ opClass .debDec = .S) ∧
   (decode 0b00110000#8 = .ok .sched ∧ mnemonic .sched = "SCHED" ∧ opClass .sched = .S) ∧
   (decode 0b01000000#8 = .ok .waitDec ∧ mnemonic .waitDec = "WAITDEC" ∧ opClass .waitDec = .M) ∧
   (decode 0b01010000#8 = .ok .render ∧ mnemonic .render = "RENDER" ∧ opClass .render = .M) ∧
   (decode 0b01100000#8 = .ok .advance ∧ mnemonic .advance = "ADVANCE" ∧ opClass .advance = .M) ∧
   (decode 0b01110000#8 = .ok .hookNone ∧ mnemonic .hookNone = "HOOK.NONE" ∧ opClass .hookNone = .M) ∧
   (decode 0b01110001#8 = .ok .hookHShift ∧ mnemonic .hookHShift = "HOOK.HSHIFT" ∧ opClass .hookHShift = .M) ∧
   (decode 0b01110010#8 = .ok .hookVShift ∧ mnemonic .hookVShift = "HOOK.VSHIFT" ∧ opClass .hookVShift = .M) ∧
   (decode 0b01110011#8 = .ok .hookStar ∧ mnemonic .hookStar = "HOOK.STAR" ∧ opClass .hookStar = .M) ∧
   (decode 0b10000000#8 = .ok .reload ∧ mnemonic .reload = "RELOAD" ∧ opClass .reload = .M) ∧
   (decode 0b10010000#8 = .ok .lfsrStep ∧ mnemonic .lfsrStep = "LFSRSTEP" ∧ opClass .lfsrStep = .M) ∧
   (decode 0b10100000#8 = .ok .lfsrDraw ∧ mnemonic .lfsrDraw = "LFSRDRAW" ∧ opClass .lfsrDraw = .M) ∧
   (decode 0b10110000#8 = .ok (.edge false) ∧ mnemonic (.edge false) = "EDGE" ∧ opClass (.edge false) = .E) ∧
   (decode 0b10110001#8 = .ok (.edge true) ∧ mnemonic (.edge true) = "EDGE" ∧ opClass (.edge true) = .E) ∧
   (decode 0b11000000#8 = .ok .switch ∧ mnemonic .switch = "SWITCH" ∧ opClass .switch = .M) ∧
   (decode 0b11110000#8 = .ok .reset ∧ mnemonic .reset = "RESET" ∧ opClass .reset = .E)) ∧
  (∀ w : Byte, (∃ i, decode w = .ok i) ↔
    w ∈ [0x10#8, 0x11, 0x12, 0x13, 0x20, 0x30, 0x40, 0x50, 0x60, 0x70, 0x71, 0x72, 0x73, 0x80, 0x90, 0xA0, 0xB0, 0xB1, 0xC0, 0xF0])

/-- R95 (decision D2): decoding and encoding agree in both directions, at every operand. -/
def Obligations.DecodeAndEncodeAgree : Prop :=
  (∀ i : Instr, decode (encode i) = .ok i) ∧ (∀ (w : Byte) (i : Instr), decode w = .ok i → encode i = w)

/-- R95 (decision D2): a row of the opcode table applies to a word exactly where the decoder gives that row's operation, and no word
has two rows. -/
def Obligations.OpcodeRowsAgreeWithDecoder : Prop :=
  (∀ r ∈ opcodeRows, ∀ w : Byte, r.applies w = true ↔ ∃ i, decode w = .ok i ∧ mnemonic i = r.mnemonic) ∧
  opcodeRows.Pairwise (fun a b => ∀ w : Byte, ¬(a.applies w = true ∧ b.applies w = true))

/-- R99 (decision D2): a word with opcode 0, D or E, or with an operand bit set that its format shows as 0, decodes to nothing, every
other word decodes, and a step refuses an illegal word with reason 1, at either level. -/
def Obligations.IllegalWordsAreRefused : Prop :=
  (∀ w : Byte, (∃ why, decode w = .illegal why) ↔
    (w.toNat / 16 = 0 ∨ w.toNat / 16 = 0xD ∨ w.toNat / 16 = 0xE) ∨
    ((w.toNat / 16 = 1 ∨ w.toNat / 16 = 7) ∧ 4 ≤ w.toNat % 16) ∨
    (w.toNat / 16 = 0xB ∧ 2 ≤ w.toNat % 16) ∨
    (w.toNat / 16 ≠ 1 ∧ w.toNat / 16 ≠ 7 ∧ w.toNat / 16 ≠ 0xB ∧ w.toNat % 16 ≠ 0)) ∧
  (∀ (s : State) (l : Level) (w : Byte) (rest : List TraceWord),
    s.input = ⟨l, w⟩ :: rest → legalWord w = false → step s = .refused .illegalOperationWord)

/-! ## A step runs the decoded operation -/

/-- A step runs the operation of the next word (log 6, log 7): of the oldest word placed, which leaves the queue and nothing else; or,
where none is placed, of the main sequencer's own phase (R230). -/
def Obligations.StepRunsDecodedOperation : Prop :=
  (∀ (s : State) (l : Level) (w : Byte) (rest : List TraceWord) (i : Instr),
    s.input = ⟨l, w⟩ :: rest → decode w = .ok i → (l = .unitTest ∨ opClass i ≠ .M) →
    step s = exec i { s with input := rest }) ∧
  (∀ s : State, s.input = [] →
    (s.seq = 0 → step s = exec (.scanRow 0) s) ∧ (s.seq = 1 → step s = exec (.scanRow 1) s) ∧
    (s.seq = 2 → step s = exec (.scanRow 2) s) ∧ (s.seq = 3 → step s = exec (.scanRow 3) s) ∧
    (s.seq = 4 → step s = exec .debDec s) ∧ (s.seq = 5 → step s = exec .sched s))

/-- R94, R252 (decisions D2, D18): a class M word as a step of a trace is refused with reason 2; the class M words are those of WAITDEC,
RENDER, ADVANCE, the hooks, RELOAD, LFSRSTEP, LFSRDRAW and SWITCH. -/
def Obligations.MicroOperationsRefusedAtTopLevel : Prop :=
  ∀ (s : State) (w : Byte) (rest : List TraceWord),
    s.input = ⟨.top, w⟩ :: rest →
    w ∈ [0x40#8, 0x50, 0x60, 0x70, 0x71, 0x72, 0x73, 0x80, 0x90, 0xA0, 0xC0] →
    step s = .refused .microOpAtTopLevel

/-- R94, R230, R252 (decisions D2, D3, D18): in a state with `SEQ = k` exactly one of the six sequencer words is taken, number `k` of
10, 11, 12, 13, 20, 30, and the five others are refused with reason 3; EDGE and RESET are taken in every state. -/
def Obligations.OneSequencerWordPerPhase : Prop :=
  (∀ (s : State) (w : Byte) (rest : List TraceWord) (j : Nat),
    s.input = ⟨.top, w⟩ :: rest → [0x10#8, 0x11, 0x12, 0x13, 0x20, 0x30][j]? = some w →
    ((j = s.seq.val → ∃ t, step s = .next t ∧ t.seq.val = (j + 1) % 6) ∧
     (j ≠ s.seq.val → step s = .refused .outOfSequence))) ∧
  (∀ (s : State) (w : Byte) (rest : List TraceWord),
    s.input = ⟨.top, w⟩ :: rest → w ∈ [0xB0#8, 0xB1, 0xF0] → ∃ t, step s = .next t)

/-! ## The scan multiplexer -/

/-- R215 (the places of the two nibbles are decision D7, the phases D3): where `SEQ == y`, one drive word is sent, all ones in its select
nibble but bit `y`, row `y` of the Framebuffer in its data nibble, `SEQ` becomes `y + 1` and nothing else changes; elsewhere the
operation is not admitted. -/
def Obligations.ScanRowSendsOneDriveWord : Prop :=
  (∀ y : BitVec 2, decode (BitVec.ofNat 8 (0x10 + y.toNat)) = .ok (.scanRow y) ∧ opClass (.scanRow y) = .S) ∧
  (∀ (s : State) (y : BitVec 2), s.seq.val = y.toNat →
    ∃ (b : Byte) (k : Fin 6), exec (.scanRow y) s = .next { s with out := s.out ++ [b], seq := k } ∧
      k.val = y.toNat + 1 ∧
      (∀ i < 4, b.getLsbD (4 + i) = decide (i ≠ y.toNat)) ∧
      (∀ c < 4, b.getLsbD c = s.fb.getLsbD (4 * y.toNat + c))) ∧
  (∀ (s : State) (y : BitVec 2), s.seq.val ≠ y.toNat → exec (.scanRow y) s = .refused .outOfSequence)

/-- R70, R60, R215 (the places of the two nibbles are decision D7, the phases D3): SCANROW appends exactly one byte to `OUT`, the drive word
of its row, writes nothing but `SEQ`, and is the only operation that sends. -/
def Obligations.OnlyScanRowSends : Prop :=
  ∀ (i : Instr) (s t : State), exec i s = .next t →
    (∃ (y : BitVec 2) (b : Byte), i = .scanRow y ∧ s.seq.val = y.toNat ∧ t.seq.val = y.toNat + 1 ∧
      t = { s with out := s.out ++ [b], seq := t.seq } ∧
      (∀ j < 4, b.getLsbD (4 + j) = decide (j ≠ y.toNat)) ∧ (∀ c < 4, b.getLsbD c = s.fb.getLsbD (4 * y.toNat + c))) ∨
    ((∀ y, i ≠ .scanRow y) ∧ t.out = s.out)

/-- R220, an inference of the spec (the bytes rest on D7): whatever edge events fall between the rows, the four words of a pass are the
four rows of one Framebuffer, in ascending order. -/
def Obligations.PassShowsOnePicture : Prop :=
  ∀ (s : State) (e0 e1 e2 e3 e4 : List Bool), s.seq = 0 →
    ∃ t, execAll (e0.map .edge ++ [.scanRow 0] ++ e1.map .edge ++ [.scanRow 1] ++ e2.map .edge ++ [.scanRow 2]
        ++ e3.map .edge ++ [.scanRow 3] ++ e4.map .edge) s = .next t ∧
      t.out = s.out ++ [0xE0#8 ||| (s.fb.extractLsb' 0 4).setWidth 8, 0xD0#8 ||| (s.fb.extractLsb' 4 4).setWidth 8,
        0xB0#8 ||| (s.fb.extractLsb' 8 4).setWidth 8, 0x70#8 ||| (s.fb.extractLsb' 12 4).setWidth 8] ∧
      t.fb = s.fb ∧ t.seq = 4

/-! ## The transform unit -/

/-- R150, R151: bit `c` of a row goes to bit `(c + k) mod 4`, the source's formula on a wider value gives that, and rotation by 0 is the
identity. -/
def Obligations.RotationMovesBits : Prop :=
  (∀ (row : Nibble) (k : BitVec 2), ∀ c < 4, (rotl4 row k).getLsbD ((c + k.toNat) % 4) = row.getLsbD c) ∧
  (∀ (row : Nibble) (k : BitVec 2), (rotl4 row k).toNat =
    ((row.toNat >>> (4 - k.toNat)) ||| ((row.toNat <<< k.toNat) &&& 0xF)) &&& 0xF) ∧
  (∀ row : Nibble, rotl4 row 0 = row)

/-- R153: destination row `y` of the transform is stored row `(y + ys) mod 4`, each of its bits moved left by `xs` within the row. -/
def Obligations.TransformMovesBits : Prop :=
  ∀ (src : Frame) (xs ys : BitVec 2), ∀ y < 4, ∀ c < 4,
    (xform src xs ys).getLsbD (4 * y + (c + xs.toNat) % 4) = src.getLsbD (4 * ((y + ys.toNat) % 4) + c)

/-- R157 (a) to (d); (c) and (d) are inferences of the spec: identity, round trips, composition. -/
def Obligations.TransformsCompose : Prop :=
  (∀ src : Frame, xform src 0 0 = src) ∧
  (∀ (src : Frame) (k : BitVec 2), xform (xform src k 0) (BitVec.ofNat 2 ((4 - k.toNat) % 4)) 0 = src) ∧
  (∀ (src : Frame) (k : BitVec 2), xform (xform src 0 k) 0 (BitVec.ofNat 2 ((4 - k.toNat) % 4)) = src) ∧
  (∀ (src : Frame) (a b c d : BitVec 2), xform (xform src a b) c d =
    xform src (BitVec.ofNat 2 ((a.toNat + c.toNat) % 4)) (BitVec.ofNat 2 ((b.toNat + d.toNat) % 4)))

/-- R157 (e), an inference of the spec: the transform preserves the number of set bits. -/
def Obligations.TransformKeepsBitCount : Prop :=
  ∀ (src : Frame) (xs ys : BitVec 2),
    ((List.range 16).filter (xform src xs ys).getLsbD).length = ((List.range 16).filter src.getLsbD).length

/-- R155: RENDER replaces `FB`, and nothing else, by the transform of the source frame: frame 0 of a virtual program, else the frame at
the cursor; unshifted it gives the frame. -/
def Obligations.RenderTransformsSourceFrame : Prop :=
  decode 0x50#8 = .ok .render ∧ opClass .render = .M ∧
  (∀ (s : State) (f : Frame),
    (s.table[s.programIndex]).frames[if (s.table[s.programIndex]).isVirtual then 0 else s.frameIndex.toNat]? = some f →
    exec .render s = .next { s with fb := xform f s.xShift s.yShift } ∧
    (s.xShift = 0 → s.yShift = 0 → exec .render s = .next { s with fb := f }))

/-- The model's choice (log 9): RENDER of a frame that is not stored, which the spec leaves undefined, completes; the frame it transforms
is free; nothing but `FB` changes. -/
def Obligations.RenderOfMissingFrameLeavesFreeValue : Prop :=
  ∀ s : State,
    (s.table[s.programIndex]).frames[if (s.table[s.programIndex]).isVirtual then 0 else s.frameIndex.toNat]? = none →
    ∃ f : Frame, exec .render s = .next { s with fb := xform f s.xShift s.yShift }

/-! ## The LFSR update generator -/

/-- R131, R132 (decision D5; the parameter's form is the model's, log 10): LFSRSTEP applies the step function in force and changes nothing
else; where no other successor is listed, that halves the register and exclusive-ors the mask in if bit 0 was 1. -/
def Obligations.LfsrStepIsGaloisRight : Prop :=
  decode 0x90#8 = .ok .lfsrStep ∧ opClass .lfsrStep = .M ∧
  (∀ s : State, ∃ v : LfsrWord, exec .lfsrStep s = .next { s with lfsr := v } ∧
    (s.lfsrOverrides.lookup s.lfsr = none →
      v.toNat = if s.lfsr.toNat % 2 = 1 then (s.lfsr.toNat / 2) ^^^ 0xB400 else s.lfsr.toNat / 2) ∧
    (∀ w, s.lfsrOverrides.lookup s.lfsr = some w → v = w))

/-- R8, R34 (the parameter's form is the model's, log 10): any step function can be put in force, and every operation that steps the LFSR
then steps it so. -/
def Obligations.AnyStepFunctionCanBeChosen : Prop :=
  ∀ (f : LfsrWord → LfsrWord) (s : State),
    exec .lfsrStep (chooseLfsrStep f s) = .next { chooseLfsrStep f s with lfsr := f s.lfsr } ∧
    exec .lfsrDraw (chooseLfsrStep f s) = .next { chooseLfsrStep f s with lfsr := f^[4] s.lfsr } ∧
    (s.starPhase = 0 → ∃ t, exec .hookStar (chooseLfsrStep f s) = .next t ∧ t.lfsr = f^[4] s.lfsr) ∧
    (s.seq = 5 → s.waitRemaining = 0 → (s.table[s.programIndex]).updateHook = .starfield → s.starPhase = 0 →
      ∃ t, exec .sched (chooseLfsrStep f s) = .next t ∧ t.lfsr = f^[4] s.lfsr)

/-- R133 (b) of the default step function (decision D5): 0 comes from 0 alone; and it is a bijection (R131, R293). -/
def Obligations.LfsrStepFixesOnlyZero : Prop :=
  (∀ v : LfsrWord, lfsrStep v = 0 ↔ v = 0) ∧ (∀ v w : LfsrWord, lfsrStep v = lfsrStep w → v = w)

/-- R133 (d), an inference of the spec (decision D5): the first 24 values after the seed. -/
def Obligations.LfsrFirstValues : Prop :=
  ((List.range 25).map fun n => lfsrStep^[n] Config.lfsrSeed) =
    [0xCAFE, 0x657F, 0x86BF, 0xF75F, 0xCFAF, 0xD3D7, 0xDDEB, 0xDAF5, 0xD97A, 0x6CBD, 0x825E, 0x412F, 0x9497]
    ++ [0xFE4B, 0xCB25, 0xD192, 0x68C9, 0x8064, 0x4032, 0x2019, 0xA40C, 0x5206, 0x2903, 0xA081, 0xE440]

/-- R133 (c), an inference of the spec (decision D5): the sequence from the seed first returns to it after 65535 steps and visits every
non-zero value. -/
def Obligations.LfsrPeriodIsMaximal : Prop :=
  lfsrStep^[65535] Config.lfsrSeed = Config.lfsrSeed ∧
  (∀ n, 0 < n → n < 65535 → lfsrStep^[n] Config.lfsrSeed ≠ Config.lfsrSeed) ∧
  (∀ v : LfsrWord, v ≠ 0 → ∃ n < 65535, lfsrStep^[n] Config.lfsrSeed = v)

/-- R134: LFSRDRAW is four LFSRSTEPs; the position it yields is the low four bits of `LFSR` after them (log 11); nothing else changes. -/
def Obligations.DrawIsFourSteps : Prop :=
  decode 0xA0#8 = .ok .lfsrDraw ∧ opClass .lfsrDraw = .M ∧
  (∀ s : State, ∃ t : State, exec .lfsrDraw s = .next t ∧
    execAll [.lfsrStep, .lfsrStep, .lfsrStep, .lfsrStep] s = .next t ∧ t = { s with lfsr := t.lfsr } ∧
    (drawnPosition t).toNat = t.lfsr.toNat % 16)

/-- R135 (the step function is decision D5, the phase that advances it D6): HOOK.STAR in each phase, with all it leaves unchanged. -/
def Obligations.StarHookByPhase : Prop :=
  decode 0x73#8 = .ok .hookStar ∧ opClass .hookStar = .M ∧
  (∀ s : State, ∃ k : Fin 5, k.val = (s.starPhase.val + 1) % 5 ∧
    (s.starPhase = 0 → ∃ (u : State) (v : Frame), exec .lfsrDraw s = .next u ∧
      exec .hookStar s = .next { s with lfsr := u.lfsr, fb := v, starPhase := k } ∧
      ∀ b < 16, v.getLsbD b = decide (b = u.lfsr.toNat % 16)) ∧
    (s.starPhase = 1 → exec .hookStar s = .next { s with fb := 0, starPhase := k }) ∧
    (s.starPhase ≠ 0 → s.starPhase ≠ 1 → exec .hookStar s = .next { s with starPhase := k }))

/-- R140: over five invocations from phase 0, the first leaves exactly one bit set, the second clears, the others keep it clear, the phase
returns to 0; and the LFSR has advanced four steps (R136, decision D6). -/
def Obligations.StarCycleOfFive : Prop :=
  ∀ s : State, s.starPhase = 0 →
    ∃ t1 t2 t3 t4 t5 : State, exec .hookStar s = .next t1 ∧ exec .hookStar t1 = .next t2 ∧ exec .hookStar t2 = .next t3 ∧
      exec .hookStar t3 = .next t4 ∧ exec .hookStar t4 = .next t5 ∧
      (∃ p < 16, ∀ b < 16, t1.fb.getLsbD b = decide (b = p)) ∧
      t2.fb = 0 ∧ t3.fb = 0 ∧ t4.fb = 0 ∧ t5.fb = 0 ∧ t5.starPhase = 0 ∧ t5.lfsr = (lfsrStepBy s.lfsrOverrides)^[4] s.lfsr

/-- R133 (b), for any step function in force: if it never yields 0 from a non-zero value, every operation keeps `LFSR` non-zero. -/
def Obligations.AnyAdmissibleStepKeepsLfsrNonzero : Prop :=
  ∀ (i : Instr) (s t : State), (∀ v, v ≠ 0 → lfsrStepBy s.lfsrOverrides v ≠ 0) → s.lfsr ≠ 0 → exec i s = .next t → t.lfsr ≠ 0

/-- R138 (that a switch keeps `starPhase` is decision D14): of the operations of a trace, `LFSR` and `starPhase` change only in RESET,
which restores them, and in a SCHED that fires a Starfield program; SWITCH leaves both unchanged. -/
def Obligations.LfsrAndPhaseChangeOnlyInStarfield : Prop :=
  (∀ (i : Instr) (s t : State), exec i s = .next t → (opClass i ≠ .M ∨ i = .switch) → i ≠ .reset →
    ¬(i = .sched ∧ s.waitRemaining = 0 ∧ (s.table[s.programIndex]).updateHook = .starfield) →
    t.lfsr = s.lfsr ∧ t.starPhase = s.starPhase) ∧
  (∀ s : State, ∃ t, exec .reset s = .next t ∧ t.lfsr = 0xCAFE ∧ t.starPhase = 0)

/-! ## The scheduler -/

/-- R174: from a non-zero `waitRemaining`, WAITDEC takes one off unless it is 255, and changes nothing else. -/
def Obligations.WaitDecCountsDownButSentinel : Prop :=
  decode 0x40#8 = .ok .waitDec ∧ opClass .waitDec = .M ∧
  (∀ s : State, s.waitRemaining ≠ 0 →
    ∃ v : BitVec 8, exec .waitDec s = .next { s with waitRemaining := v } ∧
      v.toNat = if s.waitRemaining.toNat = 255 then 255 else s.waitRemaining.toNat - 1)

/-- The model's choice (log 8): WAITDEC run alone at 0, outside its precondition, completes; the value it leaves is free and the count of
free values moves on; nothing else changes. -/
def Obligations.WaitDecAtZeroLeavesFreeValue : Prop :=
  ∀ s : State, s.waitRemaining = 0 →
    ∃ v : BitVec 8, exec .waitDec s = .next { s with waitRemaining := v, freeDraws := s.freeDraws + 1 }

/-- R177 (the zero count is decision D9): ADVANCE steps the cursor modulo the selected program's frame count, to 0 for a count of 0, and
changes nothing else. -/
def Obligations.AdvanceStepsFrameCursor : Prop :=
  decode 0x60#8 = .ok .advance ∧ opClass .advance = .M ∧
  (∀ s : State, ∃ v : BitVec 7, exec .advance s = .next { s with frameIndex := v } ∧
    v.toNat = if (s.table[s.programIndex]).frameCount.toNat = 0 then 0
      else (s.frameIndex.toNat + 1) % (s.table[s.programIndex]).frameCount.toNat)

/-- R182, R183, R184 (the truncation is decision D10): HOOK.NONE changes nothing; the shift hooks set their own shift to the frame cursor
modulo 4 and change nothing else. -/
def Obligations.ShiftHooksTakeFrameCursor : Prop :=
  decode 0x70#8 = .ok .hookNone ∧ decode 0x71#8 = .ok .hookHShift ∧ decode 0x72#8 = .ok .hookVShift ∧
  opClass .hookNone = .M ∧ opClass .hookHShift = .M ∧ opClass .hookVShift = .M ∧
  (∀ s : State, exec .hookNone s = .next s) ∧
  (∀ s : State, ∃ v : BitVec 2, v.toNat = s.frameIndex.toNat % 4 ∧ exec .hookHShift s = .next { s with xShift := v }) ∧
  (∀ s : State, ∃ v : BitVec 2, v.toNat = s.frameIndex.toNat % 4 ∧ exec .hookVShift s = .next { s with yShift := v })

/-- R186: RELOAD sets `waitRemaining` to the selected program's `frameDelay` and changes nothing else. -/
def Obligations.ReloadTakesFrameDelay : Prop :=
  decode 0x80#8 = .ok .reload ∧ opClass .reload = .M ∧
  (∀ s : State, exec .reload s = .next { s with waitRemaining := (s.table[s.programIndex]).frameDelay })

/-- R170, R171 (the phases are decision D3, the frame count of 0 D9): SCHED, admitted where `SEQ == 5`, counts a non-zero wait down and
does nothing else; at 0 it is RENDER (skipped for a frame count of 0), ADVANCE, the selected program's one hook, RELOAD, in this order;
`SEQ` becomes 0. -/
def Obligations.SchedCountsDownOrFires : Prop :=
  decode 0x30#8 = .ok .sched ∧ opClass .sched = .S ∧
  (∀ s : State, s.seq = 5 → s.waitRemaining ≠ 0 →
    ∃ v : BitVec 8, exec .sched s = .next { s with waitRemaining := v, seq := 0 } ∧
      v.toNat = if s.waitRemaining.toNat = 255 then 255 else s.waitRemaining.toNat - 1) ∧
  (∀ s : State, s.seq = 5 → s.waitRemaining = 0 →
    ∃ t : State, exec .sched s = .next { t with seq := 0 } ∧
      execAll ((if (s.table[s.programIndex]).frameCount = 0 then [] else [.render]) ++ [.advance] ++
        (match (s.table[s.programIndex]).updateHook with
          | .none => [.hookNone]
          | .horizontalShift => [.hookHShift]
          | .verticalShift => [.hookVShift]
          | .starfield => [.hookStar]) ++ [.reload]) s = .next t) ∧
  (∀ s : State, s.seq ≠ 5 → exec .sched s = .refused .outOfSequence)

/-- What a fire leaves, register by register (an inference from R155, R171, R177, R183, R184, R186): the render uses the cursor and shifts
from before, the hook the cursor from after; a Starfield program is covered by its own phases. -/
def Obligations.FireResultByRegister : Prop :=
  ∀ s : State, s.seq = 5 → s.waitRemaining = 0 →
    ∃ t : State, exec .sched s = .next t ∧
      t.waitRemaining = (s.table[s.programIndex]).frameDelay ∧
      t.frameIndex.toNat = (if (s.table[s.programIndex]).frameCount.toNat = 0 then 0
        else (s.frameIndex.toNat + 1) % (s.table[s.programIndex]).frameCount.toNat) ∧
      t.xShift.toNat = (if (s.table[s.programIndex]).updateHook = .horizontalShift then t.frameIndex.toNat % 4 else s.xShift.toNat) ∧
      t.yShift.toNat = (if (s.table[s.programIndex]).updateHook = .verticalShift then t.frameIndex.toNat % 4 else s.yShift.toNat) ∧
      ((s.table[s.programIndex]).updateHook ≠ .starfield →
        t.lfsr = s.lfsr ∧ t.starPhase = s.starPhase ∧
        ((s.table[s.programIndex]).frameCount = 0 → t.fb = s.fb) ∧
        (∀ f, (s.table[s.programIndex]).frameCount ≠ 0 →
          (s.table[s.programIndex]).frames[if (s.table[s.programIndex]).isVirtual then 0 else s.frameIndex.toNat]? = some f →
          t.fb = xform f s.xShift s.yShift)) ∧
      t.seq = 0 ∧ t.programIndex = s.programIndex ∧ t.prevRawLevel = s.prevRawLevel ∧
      t.debounceCountdown = s.debounceCountdown ∧ t.out = s.out ∧ t.table = s.table ∧ t.rawLevelReset = s.rawLevelReset ∧
      t.lfsrOverrides = s.lfsrOverrides ∧ t.input = s.input ∧ t.freeDraws = s.freeDraws

/-- R137, an inference of the spec (the step function is decision D5, the phase that advances it D6, a frame count of 0 D9): a fire of a
Starfield program. In phases 0 and 1 the hook's value replaces the rendered one, in the others the rendered one stays. -/
def Obligations.StarfieldFireByPhase : Prop :=
  ∀ s : State, s.seq = 5 → s.waitRemaining = 0 → (s.table[s.programIndex]).updateHook = .starfield →
    ∃ t : State, exec .sched s = .next t ∧ t.starPhase.val = (s.starPhase.val + 1) % 5 ∧
      (s.starPhase = 0 → t.lfsr = (lfsrStepBy s.lfsrOverrides)^[4] s.lfsr ∧ ∀ b < 16, t.fb.getLsbD b = decide (b = t.lfsr.toNat % 16)) ∧
      (s.starPhase ≠ 0 → t.lfsr = s.lfsr) ∧
      (s.starPhase = 1 → t.fb = 0) ∧
      (s.starPhase ≠ 0 → s.starPhase ≠ 1 →
        ((s.table[s.programIndex]).frameCount = 0 → t.fb = s.fb) ∧
        (∀ f, (s.table[s.programIndex]).frameCount ≠ 0 →
          (s.table[s.programIndex]).frames[if (s.table[s.programIndex]).isVirtual then 0 else s.frameIndex.toNat]? = some f →
          t.fb = xform f s.xShift s.yShift)) ∧
      t.xShift = s.xShift ∧ t.yShift = s.yShift

/-- R190: SWITCH selects the next of the seven programs, index 6 going to 0, clears the wait, the frame cursor and both shifts, and
changes nothing else. -/
def Obligations.SwitchSelectsNextProgram : Prop :=
  decode 0xC0#8 = .ok .switch ∧ opClass .switch = .M ∧
  (∀ s : State, ∃ k : Fin 7, k.val = (s.programIndex.val + 1) % 7 ∧
    exec .switch s = .next { s with programIndex := k, waitRemaining := 0, frameIndex := 0, xShift := 0, yShift := 0 })

/-! ## The input debouncer -/

/-- R200, R201: EDGE inside a lockout changes nothing at all; outside one, a press (remembered level 1, level read 0) switches programs
and starts a lockout of 30, and the remembered level is updated whether or not there was a press; nothing else changes. -/
def Obligations.EdgeHandlesPressOrDrops : Prop :=
  decode 0xB0#8 = .ok (.edge false) ∧ decode 0xB1#8 = .ok (.edge true) ∧ (∀ l, opClass (.edge l) = .E) ∧
  (∀ (s : State) (l : Bool), s.debounceCountdown ≠ 0 → exec (.edge l) s = .next s) ∧
  (∀ s : State, s.debounceCountdown = 0 → s.prevRawLevel = true →
    ∃ k : Fin 7, k.val = (s.programIndex.val + 1) % 7 ∧
      exec (.edge false) s = .next { s with
        programIndex := k, waitRemaining := 0, frameIndex := 0, xShift := 0, yShift := 0,
        debounceCountdown := 30, prevRawLevel := false }) ∧
  (∀ (s : State) (l : Bool), s.debounceCountdown = 0 → ¬(s.prevRawLevel = true ∧ l = false) →
    exec (.edge l) s = .next { s with prevRawLevel := l })

/-- R208 (the phases are decision D3): DEBDEC, admitted where `SEQ == 4`, takes one off the countdown, which stops at 0; `SEQ` becomes 5;
nothing else changes. -/
def Obligations.DebDecCountsLockoutDown : Prop :=
  decode 0x20#8 = .ok .debDec ∧ opClass .debDec = .S ∧
  (∀ s : State, s.seq = 4 → ∃ d : BitVec 8, d.toNat = s.debounceCountdown.toNat - 1 ∧
    exec .debDec s = .next { s with debounceCountdown := d, seq := 5 }) ∧
  (∀ s : State, s.seq ≠ 4 → exec .debDec s = .refused .outOfSequence)

/-- R209, R205, inferences of the spec: from a countdown of 30, in any phase, each DEBDEC of the next `n` steps takes one off; every edge
event after fewer than 30 of them is dropped, wherever it falls, and one after the 30th is examined; a low level remembered at the press
is still remembered, so that a low level read then is no press and changes nothing. Of the `n` steps from phase `q`, those of phase 4 are
the DEBDECs. -/
def Obligations.LockoutLastsThirtyIterations : Prop :=
  ∀ (s : State) (n d : Nat), s.input = [] → s.debounceCountdown = 30 →
    d = ((List.range n).filter fun j => (s.seq.val + j) % 6 = 4).length →
    ∃ t : State, run n s = .next t ∧ t.seq.val = (s.seq.val + n) % 6 ∧ t.debounceCountdown.toNat = 30 - d ∧
      t.prevRawLevel = s.prevRawLevel ∧
      (∀ l, d < 30 → exec (.edge l) t = .next t) ∧
      (∀ l, 30 ≤ d → ∃ u, exec (.edge l) t = .next u ∧ u.prevRawLevel = l) ∧
      (30 ≤ d → s.prevRawLevel = false → exec (.edge false) t = .next t)

/-- R206, an inference of the spec (the reset value of the remembered level is the open parameter of decision D13): a low level read right
after RESET switches to program 1 if the parameter is 1, and changes nothing if it is 0. -/
def Obligations.FirstPressRestsOnParameter : Prop :=
  ∀ s t : State, exec .reset s = .next t →
    (t.rawLevelReset = true → ∃ u, exec (.edge false) t = .next u ∧ u.programIndex = 1 ∧ u.debounceCountdown = 30) ∧
    (t.rawLevelReset = false → exec (.edge false) t = .next t)

/-- R191, an inference of the spec: once a press is recognised, the next SCHED fires: it is taken within six steps, it renders frame 0 of
the new program unshifted (if it has frames and its hook does not write `FB`), advances the cursor from 0, and reloads its delay. -/
def Obligations.SwitchedProgramFiresAtOnce : Prop :=
  ∀ s t : State, s.input = [] → s.debounceCountdown = 0 → s.prevRawLevel = true → exec (.edge false) s = .next t →
    ∃ u : State, run (6 - t.seq.val) t = .next u ∧ u.seq = 0 ∧
      u.programIndex.val = (s.programIndex.val + 1) % 7 ∧
      u.waitRemaining = (s.table[u.programIndex]).frameDelay ∧
      u.frameIndex.toNat = (if (s.table[u.programIndex]).frameCount.toNat = 0 then 0
        else 1 % (s.table[u.programIndex]).frameCount.toNat) ∧
      ((s.table[u.programIndex]).updateHook ≠ .starfield → (s.table[u.programIndex]).frameCount ≠ 0 →
        ∀ f, (s.table[u.programIndex]).frames[0]? = some f → u.fb = f) ∧
      ((s.table[u.programIndex]).updateHook ≠ .starfield → (s.table[u.programIndex]).frameCount = 0 → u.fb = s.fb)

/-! ## The main sequencer and reset -/

/-- R232, an inference of the spec (the bytes rest on D7): one iteration as a function of the state at `SEQ = 0`. -/
def Obligations.IterationAsOneFunction : Prop :=
  ∀ s : State, s.input = [] → s.seq = 0 →
    ∃ (t : State) (d : BitVec 8), run 6 s = .next t ∧ d.toNat = s.debounceCountdown.toNat - 1 ∧
      exec .sched { s with
        out := s.out ++ [0xE0#8 ||| (s.fb.extractLsb' 0 4).setWidth 8, 0xD0#8 ||| (s.fb.extractLsb' 4 4).setWidth 8,
          0xB0#8 ||| (s.fb.extractLsb' 8 4).setWidth 8, 0x70#8 ||| (s.fb.extractLsb' 12 4).setWidth 8],
        debounceCountdown := d, seq := 5 } = .next t ∧ t.seq = 0

/-- R172, an inference of the spec: with a wait of `w` (not 255) at the start of an iteration and no edge event, the first `w` iterations
only count it down, `k` of them leaving `w - k` and everything else but the lockout countdown and `OUT` as it was (`OUT` grows by four
bytes an iteration); the iteration after them fires: it steps the frame cursor and reloads the delay. -/
def Obligations.WaitLastsItsCount : Prop :=
  (∀ (s : State) (k : Nat), s.input = [] → s.seq = 0 → s.waitRemaining.toNat ≠ 255 → k ≤ s.waitRemaining.toNat →
    ∃ t : State, run (6 * k) s = .next t ∧ t.waitRemaining.toNat = s.waitRemaining.toNat - k ∧
      t.out.length = s.out.length + 4 * k ∧ t.debounceCountdown.toNat = s.debounceCountdown.toNat - k ∧
      t = { s with waitRemaining := t.waitRemaining, out := t.out, debounceCountdown := t.debounceCountdown }) ∧
  (∀ s : State, s.input = [] → s.seq = 0 → s.waitRemaining.toNat ≠ 255 →
    ∃ u : State, run (6 * (s.waitRemaining.toNat + 1)) s = .next u ∧ u.seq = 0 ∧
      u.waitRemaining = (s.table[s.programIndex]).frameDelay ∧
      u.frameIndex.toNat = (if (s.table[s.programIndex]).frameCount.toNat = 0 then 0
        else (s.frameIndex.toNat + 1) % (s.table[s.programIndex]).frameCount.toNat) ∧
      u.programIndex = s.programIndex ∧ u.table = s.table ∧ u.input = [])

/-- R172, an inference of the spec: consecutive fires of one program with a delay of `d` (not 255) are `d + 1` iterations apart: after a
fire, `d` iterations leave the frame cursor alone, and the next one steps it and reloads the delay. -/
def Obligations.FiresAreDelayPlusOneApart : Prop :=
  ∀ (s : State) (k : Nat), s.input = [] → s.seq = 0 → s.waitRemaining = 0 →
    (s.table[s.programIndex]).frameDelay ≠ 255 → k ≤ (s.table[s.programIndex]).frameDelay.toNat →
    ∃ a t u : State, run 6 s = .next a ∧ run (6 + 6 * k) s = .next t ∧
      run (6 + 6 * ((s.table[s.programIndex]).frameDelay.toNat + 1)) s = .next u ∧
      t.frameIndex = a.frameIndex ∧ t.fb = a.fb ∧ t.waitRemaining.toNat = (s.table[s.programIndex]).frameDelay.toNat - k ∧
      u.waitRemaining = (s.table[s.programIndex]).frameDelay ∧
      u.frameIndex.toNat = (if (s.table[s.programIndex]).frameCount.toNat = 0 then 0
        else (a.frameIndex.toNat + 1) % (s.table[s.programIndex]).frameCount.toNat)

/-- An inference from R174 and R230: at the sentinel, whatever the number of iterations with no edge event, nothing but the lockout
countdown and `OUT` ever changes. -/
def Obligations.SentinelFreezesForEver : Prop :=
  ∀ (s : State) (k : Nat), s.input = [] → s.seq = 0 → s.waitRemaining = 255 →
    ∃ t : State, run (6 * k) s = .next t ∧
      t.out.length = s.out.length + 4 * k ∧ t.debounceCountdown.toNat = s.debounceCountdown.toNat - k ∧
      t = { s with out := t.out, debounceCountdown := t.debounceCountdown }

/-- R233, an inference of the spec: moving an edge event from before a SCANROW to after it changes neither the state nor `OUT`. -/
def Obligations.EdgeCommutesWithScanRow : Prop :=
  ∀ (s : State) (y : BitVec 2) (l : Bool),
    execAll [.edge l, .scanRow y] s = execAll [.scanRow y, .edge l] s

/-- R236, R38 (the values of `FB`, `starPhase` and `SEQ` are decisions D11, D12, D3): RESET gives every register its reset value from
every state, with `prevRawLevel` at the open parameter, and leaves `OUT`, the table and the parameters; `State.reset` holds the same
values with `OUT` empty. -/
def Obligations.ResetGivesResetState : Prop :=
  decode 0xF0#8 = .ok .reset ∧ opClass .reset = .E ∧
  (∀ s : State, exec .reset s = .next { s with
    fb := 0x0000, lfsr := 0xCAFE, starPhase := 0, programIndex := 0, frameIndex := 0, waitRemaining := 0, xShift := 0, yShift := 0,
    prevRawLevel := s.rawLevelReset, debounceCountdown := 0, seq := 0 }) ∧
  (State.reset.fb = 0x0000 ∧ State.reset.lfsr = 0xCAFE ∧ State.reset.starPhase = 0 ∧ State.reset.programIndex = 0 ∧
   State.reset.frameIndex = 0 ∧ State.reset.waitRemaining = 0 ∧ State.reset.xShift = 0 ∧ State.reset.yShift = 0 ∧
   State.reset.prevRawLevel = State.reset.rawLevelReset ∧ State.reset.debounceCountdown = 0 ∧ State.reset.seq = 0 ∧
   State.reset.out = [])

/-- R257 (decision D4; the ports are D21): a RESET that coincides with an edge event wins. -/
def Obligations.ResetWinsOverCoincidingEdge : Prop :=
  ∀ (s : State) (e : Option Bool) (d : PtData), execAll (PinInputs.ops ⟨true, e, d⟩) s = exec .reset s

/-- R110 (decision D21; the drive word without a strobe is the model's choice, log 21): a step seen at the ports, with `pt_data` answering
the table address put out, is the block's own step, and the drive word is strobed exactly where a byte is sent. -/
def Obligations.PortsAddNoBehaviour : Prop :=
  ∀ (p : PinInputs) (s : State), ptAnswer s.table (tableAddress s) = some p.ptData →
    (portStep p s).2 = step (s.arrive p) ∧
    (∀ t, step (s.arrive p) = .next t →
      t.out = s.out ++ if (portStep p s).1.driveStrobe then [(portStep p s).1.driveWord] else []) ∧
    (∀ r, step (s.arrive p) = .refused r → (portStep p s).1.driveStrobe = false) ∧
    (portStep p s).1.address.ptIndex.toNat = s.programIndex.val ∧
    (portStep p s).1.address.frameIndex = (if (s.table[s.programIndex]).isVirtual then 0 else s.frameIndex)

/-! ## Whole-machine rules -/

/-- R77: no operation and no step writes the ProgramTable; nor the other parameters (R34). -/
def Obligations.ProgramTableNeverChanges : Prop :=
  (∀ (i : Instr) (s t : State), exec i s = .next t →
    t.table = s.table ∧ t.rawLevelReset = s.rawLevelReset ∧ t.lfsrOverrides = s.lfsrOverrides) ∧
  (∀ s t : State, step s = .next t →
    t.table = s.table ∧ t.rawLevelReset = s.rawLevelReset ∧ t.lfsrOverrides = s.lfsrOverrides)

/-- R37: the interrupt context writes at most seven registers, and neither writes nor reads `FB`, `LFSR`, `starPhase` and `SEQ`; the main
sequence neither writes nor reads `prevRawLevel`. -/
def Obligations.ContextsTouchOnlyTheirRegisters : Prop :=
  (∀ (l : Bool) (s : State) (fb : Frame) (v : LfsrWord) (p : Fin 5) (k : Fin 6),
    ∃ t : State, exec (.edge l) s = .next t ∧
      t = { s with programIndex := t.programIndex, waitRemaining := t.waitRemaining, frameIndex := t.frameIndex, xShift := t.xShift,
                   yShift := t.yShift, prevRawLevel := t.prevRawLevel, debounceCountdown := t.debounceCountdown } ∧
      exec (.edge l) { s with fb := fb, lfsr := v, starPhase := p, seq := k } =
        .next { t with fb := fb, lfsr := v, starPhase := p, seq := k }) ∧
  (∀ (i : Instr) (s t : State) (l : Bool), opClass i = .S → exec i s = .next t →
    t.prevRawLevel = s.prevRawLevel ∧ exec i { s with prevRawLevel := l } = .next { t with prevRawLevel := l })

/-- R13, an inference of the spec, with R252 and R253: every operation admitted in a state answers a next state; one whose phase does not
match is refused as out of sequence; and a step is never refused for another reason than an illegal word, a micro-operation as a step of
a trace, or a phase. -/
def Obligations.EveryAdmittedOperationCompletes : Prop :=
  (∀ (i : Instr) (s : State), (∀ k, phaseOf i = some k → s.seq = k) → ∃ t, exec i s = .next t) ∧
  (∀ (i : Instr) (s : State) (k : Fin 6), phaseOf i = some k → s.seq ≠ k → exec i s = .refused .outOfSequence) ∧
  (∀ s : State, (∃ t, step s = .next t) ∨ step s = .refused .illegalOperationWord ∨ step s = .refused .microOpAtTopLevel ∨
    step s = .refused .outOfSequence)

/-- The invariants of R36 (an inference of the spec), for any admissible step function of the LFSR: every step from a state that meets them, micro-operations run alone included, leaves
a state that meets them. -/
def Obligations.StepKeepsRegisterInvariant : Prop :=
  ∀ s t : State, RegisterInv s → step s = .next t → RegisterInv t

/-- The invariants of R36 on `FB` and of R185 on the shifts (inferences of the spec), of a block whose trace holds no micro-operation run
alone: every step keeps them. -/
def Obligations.StepKeepsBlockInvariant : Prop :=
  ∀ s t : State, BlockInv s → step s = .next t → BlockInv t

/-- The state after reset, with the default step function (decision D5), meets the invariants, whatever the open parameters are. -/
def Obligations.ResetStateMeetsInvariants : Prop := BlockInv State.reset

/-- R253, an inference of the spec, as an invariant: where the words placed are a trace the sequencer and the external events can produce,
a step answers a next state, and the words left are such a trace from its phase. -/
def Obligations.StepKeepsTraceAdmissible : Prop :=
  ∀ s : State, admissible s.seq s.input = true → ∃ t, step s = .next t ∧ admissible t.seq t.input = true

/-- R253, an inference of the spec: a trace the sequencer and the external events can produce is never refused, for any number of steps,
those after the trace's end included. -/
def Obligations.AdmissibleTracesAreNeverRefused : Prop :=
  ∀ (k : Nat) (s : State), admissible s.seq s.input = true → RunsFor k s

/-! ## The program table and the trace text -/

/-- R64, R253 (decision D17): a well-formed table becomes the table and changes nothing else; any other is refused with reason 4. -/
def Obligations.SupplyTableChecksWellFormedness : Prop :=
  ∀ (ds : List Descriptor) (s : State),
    ((ds.length = 7 ∧ ∀ d ∈ ds, d.frames.length = if d.isVirtual then 1 else d.frameCount.toNat) →
      ∃ t : ProgramTable, supplyTable ds s = .next { s with table := t } ∧ t.toList = ds ∧ t.Wf) ∧
    (¬(ds.length = 7 ∧ ∀ d ∈ ds, d.frames.length = if d.isVirtual then 1 else d.frameCount.toNat) →
      supplyTable ds s = .refused .malformedTable)

/-- R100, R101, R102 (decision D8): the places of a descriptor word's fields; a packed descriptor whose frames stand in the frame store from `frameBase` on unpacks to itself; a word with
a reserved bit set, or one of whose frame indices is 256 or more, unpacks to nothing. -/
def Obligations.PackedDescriptorsUnpack : Prop :=
  (∀ (d : Descriptor) (base : Byte), (packDescriptor d base).toNat =
    d.frameCount.toNat + 2 ^ 7 * (if d.isVirtual then 1 else 0) + 2 ^ 8 * d.frameDelay.toNat +
    2 ^ 16 * (match d.updateHook with | .none => 0 | .horizontalShift => 1 | .verticalShift => 2 | .starfield => 3) +
    2 ^ 24 * base.toNat) ∧
  (∀ (d : Descriptor) (base : Byte) (fs : List Frame), d.wf = true → base.toNat + d.frames.length ≤ 256 →
    (∀ j < d.frames.length, fs[base.toNat + j]? = d.frames[j]?) → unpackDescriptor fs (packDescriptor d base) = some d) ∧
  (∀ (dw : BitVec 32) (fs : List Frame), (∃ b, 18 ≤ b ∧ b ≤ 23 ∧ dw.getLsbD b = true) → unpackDescriptor fs dw = none) ∧
  (∀ (dw : BitVec 32) (fs : List Frame),
    256 < dw.toNat / 2 ^ 24 + (if dw.getLsbD 7 then 1 else dw.toNat % 128) → unpackDescriptor fs dw = none)

/-- R66, R64 (that program 0's hook is None and where the scroll program may stand is DEDUCED, log 2): the table at reset is well formed
and holds the two descriptors the source gives, whatever its open contents are. -/
def Obligations.ResetTableHoldsSourceDescriptors : Prop :=
  Config.programTable.Wf ∧
  (Config.programTable[0].frameCount = 1 ∧ Config.programTable[0].isVirtual = true ∧ Config.programTable[0].frameDelay = 255 ∧
   Config.programTable[0].updateHook = .none) ∧
  (∃ i : Fin 7, Config.programTable[i].frameCount = 4 ∧ Config.programTable[i].updateHook = .horizontalShift ∧
    Config.programTable[i].frameDelay = 70)

/-- R107 (decision D22): the line an operation is written as reads back as that operation. -/
def Obligations.TraceLinesReadBack : Prop := ∀ i : Instr, parseLine (printOp i) = some [i]
end

