-- ==== Sys2Proof/Laws/State.lean ====
section
/-! SUPPORT. Each field after each named update of the state, true by rfl; then each field that the branching operations keep. -/

namespace Sys2Proof.Machine

@[simp] theorem send_fb (b : Byte) (s : State) : (send b s).fb = s.fb := rfl
@[simp] theorem send_lfsr (b : Byte) (s : State) : (send b s).lfsr = s.lfsr := rfl
@[simp] theorem send_starPhase (b : Byte) (s : State) : (send b s).starPhase = s.starPhase := rfl
@[simp] theorem send_programIndex (b : Byte) (s : State) : (send b s).programIndex = s.programIndex := rfl
@[simp] theorem send_frameIndex (b : Byte) (s : State) : (send b s).frameIndex = s.frameIndex := rfl
@[simp] theorem send_waitRemaining (b : Byte) (s : State) : (send b s).waitRemaining = s.waitRemaining := rfl
@[simp] theorem send_xShift (b : Byte) (s : State) : (send b s).xShift = s.xShift := rfl
@[simp] theorem send_yShift (b : Byte) (s : State) : (send b s).yShift = s.yShift := rfl
@[simp] theorem send_prevRawLevel (b : Byte) (s : State) : (send b s).prevRawLevel = s.prevRawLevel := rfl
@[simp] theorem send_debounceCountdown (b : Byte) (s : State) : (send b s).debounceCountdown = s.debounceCountdown := rfl
@[simp] theorem send_seq (b : Byte) (s : State) : (send b s).seq = s.seq := rfl
@[simp] theorem send_out (b : Byte) (s : State) : (send b s).out = s.out ++ [b] := rfl
@[simp] theorem send_table (b : Byte) (s : State) : (send b s).table = s.table := rfl
@[simp] theorem send_rawLevelReset (b : Byte) (s : State) : (send b s).rawLevelReset = s.rawLevelReset := rfl
@[simp] theorem send_lfsrOverrides (b : Byte) (s : State) : (send b s).lfsrOverrides = s.lfsrOverrides := rfl
@[simp] theorem send_input (b : Byte) (s : State) : (send b s).input = s.input := rfl
@[simp] theorem send_freeDraws (b : Byte) (s : State) : (send b s).freeDraws = s.freeDraws := rfl
@[simp] theorem send_selected (b : Byte) (s : State) : selected (send b s) = selected s := rfl

@[simp] theorem setSeq_fb (v : Fin 6) (s : State) : (setSeq v s).fb = s.fb := rfl
@[simp] theorem setSeq_lfsr (v : Fin 6) (s : State) : (setSeq v s).lfsr = s.lfsr := rfl
@[simp] theorem setSeq_starPhase (v : Fin 6) (s : State) : (setSeq v s).starPhase = s.starPhase := rfl
@[simp] theorem setSeq_programIndex (v : Fin 6) (s : State) : (setSeq v s).programIndex = s.programIndex := rfl
@[simp] theorem setSeq_frameIndex (v : Fin 6) (s : State) : (setSeq v s).frameIndex = s.frameIndex := rfl
@[simp] theorem setSeq_waitRemaining (v : Fin 6) (s : State) : (setSeq v s).waitRemaining = s.waitRemaining := rfl
@[simp] theorem setSeq_xShift (v : Fin 6) (s : State) : (setSeq v s).xShift = s.xShift := rfl
@[simp] theorem setSeq_yShift (v : Fin 6) (s : State) : (setSeq v s).yShift = s.yShift := rfl
@[simp] theorem setSeq_prevRawLevel (v : Fin 6) (s : State) : (setSeq v s).prevRawLevel = s.prevRawLevel := rfl
@[simp] theorem setSeq_debounceCountdown (v : Fin 6) (s : State) : (setSeq v s).debounceCountdown = s.debounceCountdown := rfl
@[simp] theorem setSeq_seq (v : Fin 6) (s : State) : (setSeq v s).seq = v := rfl
@[simp] theorem setSeq_out (v : Fin 6) (s : State) : (setSeq v s).out = s.out := rfl
@[simp] theorem setSeq_table (v : Fin 6) (s : State) : (setSeq v s).table = s.table := rfl
@[simp] theorem setSeq_rawLevelReset (v : Fin 6) (s : State) : (setSeq v s).rawLevelReset = s.rawLevelReset := rfl
@[simp] theorem setSeq_lfsrOverrides (v : Fin 6) (s : State) : (setSeq v s).lfsrOverrides = s.lfsrOverrides := rfl
@[simp] theorem setSeq_input (v : Fin 6) (s : State) : (setSeq v s).input = s.input := rfl
@[simp] theorem setSeq_freeDraws (v : Fin 6) (s : State) : (setSeq v s).freeDraws = s.freeDraws := rfl
@[simp] theorem setSeq_selected (v : Fin 6) (s : State) : selected (setSeq v s) = selected s := rfl

@[simp] theorem driveRow_fb (y : BitVec 2) (s : State) : (driveRow y s).fb = s.fb := rfl
@[simp] theorem driveRow_lfsr (y : BitVec 2) (s : State) : (driveRow y s).lfsr = s.lfsr := rfl
@[simp] theorem driveRow_starPhase (y : BitVec 2) (s : State) : (driveRow y s).starPhase = s.starPhase := rfl
@[simp] theorem driveRow_programIndex (y : BitVec 2) (s : State) : (driveRow y s).programIndex = s.programIndex := rfl
@[simp] theorem driveRow_frameIndex (y : BitVec 2) (s : State) : (driveRow y s).frameIndex = s.frameIndex := rfl
@[simp] theorem driveRow_waitRemaining (y : BitVec 2) (s : State) : (driveRow y s).waitRemaining = s.waitRemaining := rfl
@[simp] theorem driveRow_xShift (y : BitVec 2) (s : State) : (driveRow y s).xShift = s.xShift := rfl
@[simp] theorem driveRow_yShift (y : BitVec 2) (s : State) : (driveRow y s).yShift = s.yShift := rfl
@[simp] theorem driveRow_prevRawLevel (y : BitVec 2) (s : State) : (driveRow y s).prevRawLevel = s.prevRawLevel := rfl
@[simp] theorem driveRow_debounceCountdown (y : BitVec 2) (s : State) : (driveRow y s).debounceCountdown = s.debounceCountdown := rfl
@[simp] theorem driveRow_seq (y : BitVec 2) (s : State) : (driveRow y s).seq = s.seq := rfl
@[simp] theorem driveRow_out (y : BitVec 2) (s : State) : (driveRow y s).out = s.out ++ [driveWord s.fb y] := rfl
@[simp] theorem driveRow_table (y : BitVec 2) (s : State) : (driveRow y s).table = s.table := rfl
@[simp] theorem driveRow_rawLevelReset (y : BitVec 2) (s : State) : (driveRow y s).rawLevelReset = s.rawLevelReset := rfl
@[simp] theorem driveRow_lfsrOverrides (y : BitVec 2) (s : State) : (driveRow y s).lfsrOverrides = s.lfsrOverrides := rfl
@[simp] theorem driveRow_input (y : BitVec 2) (s : State) : (driveRow y s).input = s.input := rfl
@[simp] theorem driveRow_freeDraws (y : BitVec 2) (s : State) : (driveRow y s).freeDraws = s.freeDraws := rfl
@[simp] theorem driveRow_selected (y : BitVec 2) (s : State) : selected (driveRow y s) = selected s := rfl

@[simp] theorem stepLfsr_fb (s : State) : (stepLfsr s).fb = s.fb := rfl
@[simp] theorem stepLfsr_lfsr (s : State) : (stepLfsr s).lfsr = lfsrStepBy s.lfsrOverrides s.lfsr := rfl
@[simp] theorem stepLfsr_starPhase (s : State) : (stepLfsr s).starPhase = s.starPhase := rfl
@[simp] theorem stepLfsr_programIndex (s : State) : (stepLfsr s).programIndex = s.programIndex := rfl
@[simp] theorem stepLfsr_frameIndex (s : State) : (stepLfsr s).frameIndex = s.frameIndex := rfl
@[simp] theorem stepLfsr_waitRemaining (s : State) : (stepLfsr s).waitRemaining = s.waitRemaining := rfl
@[simp] theorem stepLfsr_xShift (s : State) : (stepLfsr s).xShift = s.xShift := rfl
@[simp] theorem stepLfsr_yShift (s : State) : (stepLfsr s).yShift = s.yShift := rfl
@[simp] theorem stepLfsr_prevRawLevel (s : State) : (stepLfsr s).prevRawLevel = s.prevRawLevel := rfl
@[simp] theorem stepLfsr_debounceCountdown (s : State) : (stepLfsr s).debounceCountdown = s.debounceCountdown := rfl
@[simp] theorem stepLfsr_seq (s : State) : (stepLfsr s).seq = s.seq := rfl
@[simp] theorem stepLfsr_out (s : State) : (stepLfsr s).out = s.out := rfl
@[simp] theorem stepLfsr_table (s : State) : (stepLfsr s).table = s.table := rfl
@[simp] theorem stepLfsr_rawLevelReset (s : State) : (stepLfsr s).rawLevelReset = s.rawLevelReset := rfl
@[simp] theorem stepLfsr_lfsrOverrides (s : State) : (stepLfsr s).lfsrOverrides = s.lfsrOverrides := rfl
@[simp] theorem stepLfsr_input (s : State) : (stepLfsr s).input = s.input := rfl
@[simp] theorem stepLfsr_freeDraws (s : State) : (stepLfsr s).freeDraws = s.freeDraws := rfl
@[simp] theorem stepLfsr_selected (s : State) : selected (stepLfsr s) = selected s := rfl

@[simp] theorem drawLfsr_fb (s : State) : (drawLfsr s).fb = s.fb := rfl
@[simp] theorem drawLfsr_lfsr (s : State) : (drawLfsr s).lfsr = (lfsrStepBy s.lfsrOverrides)^[4] s.lfsr := rfl
@[simp] theorem drawLfsr_starPhase (s : State) : (drawLfsr s).starPhase = s.starPhase := rfl
@[simp] theorem drawLfsr_programIndex (s : State) : (drawLfsr s).programIndex = s.programIndex := rfl
@[simp] theorem drawLfsr_frameIndex (s : State) : (drawLfsr s).frameIndex = s.frameIndex := rfl
@[simp] theorem drawLfsr_waitRemaining (s : State) : (drawLfsr s).waitRemaining = s.waitRemaining := rfl
@[simp] theorem drawLfsr_xShift (s : State) : (drawLfsr s).xShift = s.xShift := rfl
@[simp] theorem drawLfsr_yShift (s : State) : (drawLfsr s).yShift = s.yShift := rfl
@[simp] theorem drawLfsr_prevRawLevel (s : State) : (drawLfsr s).prevRawLevel = s.prevRawLevel := rfl
@[simp] theorem drawLfsr_debounceCountdown (s : State) : (drawLfsr s).debounceCountdown = s.debounceCountdown := rfl
@[simp] theorem drawLfsr_seq (s : State) : (drawLfsr s).seq = s.seq := rfl
@[simp] theorem drawLfsr_out (s : State) : (drawLfsr s).out = s.out := rfl
@[simp] theorem drawLfsr_table (s : State) : (drawLfsr s).table = s.table := rfl
@[simp] theorem drawLfsr_rawLevelReset (s : State) : (drawLfsr s).rawLevelReset = s.rawLevelReset := rfl
@[simp] theorem drawLfsr_lfsrOverrides (s : State) : (drawLfsr s).lfsrOverrides = s.lfsrOverrides := rfl
@[simp] theorem drawLfsr_input (s : State) : (drawLfsr s).input = s.input := rfl
@[simp] theorem drawLfsr_freeDraws (s : State) : (drawLfsr s).freeDraws = s.freeDraws := rfl
@[simp] theorem drawLfsr_selected (s : State) : selected (drawLfsr s) = selected s := rfl

@[simp] theorem render_fb (s : State) : (render s).fb = xform (sourceFrame s) s.xShift s.yShift := rfl
@[simp] theorem render_lfsr (s : State) : (render s).lfsr = s.lfsr := rfl
@[simp] theorem render_starPhase (s : State) : (render s).starPhase = s.starPhase := rfl
@[simp] theorem render_programIndex (s : State) : (render s).programIndex = s.programIndex := rfl
@[simp] theorem render_frameIndex (s : State) : (render s).frameIndex = s.frameIndex := rfl
@[simp] theorem render_waitRemaining (s : State) : (render s).waitRemaining = s.waitRemaining := rfl
@[simp] theorem render_xShift (s : State) : (render s).xShift = s.xShift := rfl
@[simp] theorem render_yShift (s : State) : (render s).yShift = s.yShift := rfl
@[simp] theorem render_prevRawLevel (s : State) : (render s).prevRawLevel = s.prevRawLevel := rfl
@[simp] theorem render_debounceCountdown (s : State) : (render s).debounceCountdown = s.debounceCountdown := rfl
@[simp] theorem render_seq (s : State) : (render s).seq = s.seq := rfl
@[simp] theorem render_out (s : State) : (render s).out = s.out := rfl
@[simp] theorem render_table (s : State) : (render s).table = s.table := rfl
@[simp] theorem render_rawLevelReset (s : State) : (render s).rawLevelReset = s.rawLevelReset := rfl
@[simp] theorem render_lfsrOverrides (s : State) : (render s).lfsrOverrides = s.lfsrOverrides := rfl
@[simp] theorem render_input (s : State) : (render s).input = s.input := rfl
@[simp] theorem render_freeDraws (s : State) : (render s).freeDraws = s.freeDraws := rfl
@[simp] theorem render_selected (s : State) : selected (render s) = selected s := rfl

@[simp] theorem advanceFrame_fb (s : State) : (advanceFrame s).fb = s.fb := rfl
@[simp] theorem advanceFrame_lfsr (s : State) : (advanceFrame s).lfsr = s.lfsr := rfl
@[simp] theorem advanceFrame_starPhase (s : State) : (advanceFrame s).starPhase = s.starPhase := rfl
@[simp] theorem advanceFrame_programIndex (s : State) : (advanceFrame s).programIndex = s.programIndex := rfl
@[simp] theorem advanceFrame_frameIndex (s : State) : (advanceFrame s).frameIndex = nextFrame (selected s).frameCount s.frameIndex := rfl
@[simp] theorem advanceFrame_waitRemaining (s : State) : (advanceFrame s).waitRemaining = s.waitRemaining := rfl
@[simp] theorem advanceFrame_xShift (s : State) : (advanceFrame s).xShift = s.xShift := rfl
@[simp] theorem advanceFrame_yShift (s : State) : (advanceFrame s).yShift = s.yShift := rfl
@[simp] theorem advanceFrame_prevRawLevel (s : State) : (advanceFrame s).prevRawLevel = s.prevRawLevel := rfl
@[simp] theorem advanceFrame_debounceCountdown (s : State) : (advanceFrame s).debounceCountdown = s.debounceCountdown := rfl
@[simp] theorem advanceFrame_seq (s : State) : (advanceFrame s).seq = s.seq := rfl
@[simp] theorem advanceFrame_out (s : State) : (advanceFrame s).out = s.out := rfl
@[simp] theorem advanceFrame_table (s : State) : (advanceFrame s).table = s.table := rfl
@[simp] theorem advanceFrame_rawLevelReset (s : State) : (advanceFrame s).rawLevelReset = s.rawLevelReset := rfl
@[simp] theorem advanceFrame_lfsrOverrides (s : State) : (advanceFrame s).lfsrOverrides = s.lfsrOverrides := rfl
@[simp] theorem advanceFrame_input (s : State) : (advanceFrame s).input = s.input := rfl
@[simp] theorem advanceFrame_freeDraws (s : State) : (advanceFrame s).freeDraws = s.freeDraws := rfl
@[simp] theorem advanceFrame_selected (s : State) : selected (advanceFrame s) = selected s := rfl

@[simp] theorem noHook_fb (s : State) : (noHook s).fb = s.fb := rfl
@[simp] theorem noHook_lfsr (s : State) : (noHook s).lfsr = s.lfsr := rfl
@[simp] theorem noHook_starPhase (s : State) : (noHook s).starPhase = s.starPhase := rfl
@[simp] theorem noHook_programIndex (s : State) : (noHook s).programIndex = s.programIndex := rfl
@[simp] theorem noHook_frameIndex (s : State) : (noHook s).frameIndex = s.frameIndex := rfl
@[simp] theorem noHook_waitRemaining (s : State) : (noHook s).waitRemaining = s.waitRemaining := rfl
@[simp] theorem noHook_xShift (s : State) : (noHook s).xShift = s.xShift := rfl
@[simp] theorem noHook_yShift (s : State) : (noHook s).yShift = s.yShift := rfl
@[simp] theorem noHook_prevRawLevel (s : State) : (noHook s).prevRawLevel = s.prevRawLevel := rfl
@[simp] theorem noHook_debounceCountdown (s : State) : (noHook s).debounceCountdown = s.debounceCountdown := rfl
@[simp] theorem noHook_seq (s : State) : (noHook s).seq = s.seq := rfl
@[simp] theorem noHook_out (s : State) : (noHook s).out = s.out := rfl
@[simp] theorem noHook_table (s : State) : (noHook s).table = s.table := rfl
@[simp] theorem noHook_rawLevelReset (s : State) : (noHook s).rawLevelReset = s.rawLevelReset := rfl
@[simp] theorem noHook_lfsrOverrides (s : State) : (noHook s).lfsrOverrides = s.lfsrOverrides := rfl
@[simp] theorem noHook_input (s : State) : (noHook s).input = s.input := rfl
@[simp] theorem noHook_freeDraws (s : State) : (noHook s).freeDraws = s.freeDraws := rfl
@[simp] theorem noHook_selected (s : State) : selected (noHook s) = selected s := rfl

@[simp] theorem horizontalHook_fb (s : State) : (horizontalHook s).fb = s.fb := rfl
@[simp] theorem horizontalHook_lfsr (s : State) : (horizontalHook s).lfsr = s.lfsr := rfl
@[simp] theorem horizontalHook_starPhase (s : State) : (horizontalHook s).starPhase = s.starPhase := rfl
@[simp] theorem horizontalHook_programIndex (s : State) : (horizontalHook s).programIndex = s.programIndex := rfl
@[simp] theorem horizontalHook_frameIndex (s : State) : (horizontalHook s).frameIndex = s.frameIndex := rfl
@[simp] theorem horizontalHook_waitRemaining (s : State) : (horizontalHook s).waitRemaining = s.waitRemaining := rfl
@[simp] theorem horizontalHook_xShift (s : State) : (horizontalHook s).xShift = shiftOf s.frameIndex := rfl
@[simp] theorem horizontalHook_yShift (s : State) : (horizontalHook s).yShift = s.yShift := rfl
@[simp] theorem horizontalHook_prevRawLevel (s : State) : (horizontalHook s).prevRawLevel = s.prevRawLevel := rfl
@[simp] theorem horizontalHook_debounceCountdown (s : State) : (horizontalHook s).debounceCountdown = s.debounceCountdown := rfl
@[simp] theorem horizontalHook_seq (s : State) : (horizontalHook s).seq = s.seq := rfl
@[simp] theorem horizontalHook_out (s : State) : (horizontalHook s).out = s.out := rfl
@[simp] theorem horizontalHook_table (s : State) : (horizontalHook s).table = s.table := rfl
@[simp] theorem horizontalHook_rawLevelReset (s : State) : (horizontalHook s).rawLevelReset = s.rawLevelReset := rfl
@[simp] theorem horizontalHook_lfsrOverrides (s : State) : (horizontalHook s).lfsrOverrides = s.lfsrOverrides := rfl
@[simp] theorem horizontalHook_input (s : State) : (horizontalHook s).input = s.input := rfl
@[simp] theorem horizontalHook_freeDraws (s : State) : (horizontalHook s).freeDraws = s.freeDraws := rfl
@[simp] theorem horizontalHook_selected (s : State) : selected (horizontalHook s) = selected s := rfl

@[simp] theorem verticalHook_fb (s : State) : (verticalHook s).fb = s.fb := rfl
@[simp] theorem verticalHook_lfsr (s : State) : (verticalHook s).lfsr = s.lfsr := rfl
@[simp] theorem verticalHook_starPhase (s : State) : (verticalHook s).starPhase = s.starPhase := rfl
@[simp] theorem verticalHook_programIndex (s : State) : (verticalHook s).programIndex = s.programIndex := rfl
@[simp] theorem verticalHook_frameIndex (s : State) : (verticalHook s).frameIndex = s.frameIndex := rfl
@[simp] theorem verticalHook_waitRemaining (s : State) : (verticalHook s).waitRemaining = s.waitRemaining := rfl
@[simp] theorem verticalHook_xShift (s : State) : (verticalHook s).xShift = s.xShift := rfl
@[simp] theorem verticalHook_yShift (s : State) : (verticalHook s).yShift = shiftOf s.frameIndex := rfl
@[simp] theorem verticalHook_prevRawLevel (s : State) : (verticalHook s).prevRawLevel = s.prevRawLevel := rfl
@[simp] theorem verticalHook_debounceCountdown (s : State) : (verticalHook s).debounceCountdown = s.debounceCountdown := rfl
@[simp] theorem verticalHook_seq (s : State) : (verticalHook s).seq = s.seq := rfl
@[simp] theorem verticalHook_out (s : State) : (verticalHook s).out = s.out := rfl
@[simp] theorem verticalHook_table (s : State) : (verticalHook s).table = s.table := rfl
@[simp] theorem verticalHook_rawLevelReset (s : State) : (verticalHook s).rawLevelReset = s.rawLevelReset := rfl
@[simp] theorem verticalHook_lfsrOverrides (s : State) : (verticalHook s).lfsrOverrides = s.lfsrOverrides := rfl
@[simp] theorem verticalHook_input (s : State) : (verticalHook s).input = s.input := rfl
@[simp] theorem verticalHook_freeDraws (s : State) : (verticalHook s).freeDraws = s.freeDraws := rfl
@[simp] theorem verticalHook_selected (s : State) : selected (verticalHook s) = selected s := rfl

@[simp] theorem reloadWait_fb (s : State) : (reloadWait s).fb = s.fb := rfl
@[simp] theorem reloadWait_lfsr (s : State) : (reloadWait s).lfsr = s.lfsr := rfl
@[simp] theorem reloadWait_starPhase (s : State) : (reloadWait s).starPhase = s.starPhase := rfl
@[simp] theorem reloadWait_programIndex (s : State) : (reloadWait s).programIndex = s.programIndex := rfl
@[simp] theorem reloadWait_frameIndex (s : State) : (reloadWait s).frameIndex = s.frameIndex := rfl
@[simp] theorem reloadWait_waitRemaining (s : State) : (reloadWait s).waitRemaining = (selected s).frameDelay := rfl
@[simp] theorem reloadWait_xShift (s : State) : (reloadWait s).xShift = s.xShift := rfl
@[simp] theorem reloadWait_yShift (s : State) : (reloadWait s).yShift = s.yShift := rfl
@[simp] theorem reloadWait_prevRawLevel (s : State) : (reloadWait s).prevRawLevel = s.prevRawLevel := rfl
@[simp] theorem reloadWait_debounceCountdown (s : State) : (reloadWait s).debounceCountdown = s.debounceCountdown := rfl
@[simp] theorem reloadWait_seq (s : State) : (reloadWait s).seq = s.seq := rfl
@[simp] theorem reloadWait_out (s : State) : (reloadWait s).out = s.out := rfl
@[simp] theorem reloadWait_table (s : State) : (reloadWait s).table = s.table := rfl
@[simp] theorem reloadWait_rawLevelReset (s : State) : (reloadWait s).rawLevelReset = s.rawLevelReset := rfl
@[simp] theorem reloadWait_lfsrOverrides (s : State) : (reloadWait s).lfsrOverrides = s.lfsrOverrides := rfl
@[simp] theorem reloadWait_input (s : State) : (reloadWait s).input = s.input := rfl
@[simp] theorem reloadWait_freeDraws (s : State) : (reloadWait s).freeDraws = s.freeDraws := rfl
@[simp] theorem reloadWait_selected (s : State) : selected (reloadWait s) = selected s := rfl

@[simp] theorem switchProgram_fb (s : State) : (switchProgram s).fb = s.fb := rfl
@[simp] theorem switchProgram_lfsr (s : State) : (switchProgram s).lfsr = s.lfsr := rfl
@[simp] theorem switchProgram_starPhase (s : State) : (switchProgram s).starPhase = s.starPhase := rfl
@[simp] theorem switchProgram_programIndex (s : State) : (switchProgram s).programIndex = s.programIndex + 1 := rfl
@[simp] theorem switchProgram_frameIndex (s : State) : (switchProgram s).frameIndex = 0 := rfl
@[simp] theorem switchProgram_waitRemaining (s : State) : (switchProgram s).waitRemaining = 0 := rfl
@[simp] theorem switchProgram_xShift (s : State) : (switchProgram s).xShift = 0 := rfl
@[simp] theorem switchProgram_yShift (s : State) : (switchProgram s).yShift = 0 := rfl
@[simp] theorem switchProgram_prevRawLevel (s : State) : (switchProgram s).prevRawLevel = s.prevRawLevel := rfl
@[simp] theorem switchProgram_debounceCountdown (s : State) : (switchProgram s).debounceCountdown = s.debounceCountdown := rfl
@[simp] theorem switchProgram_seq (s : State) : (switchProgram s).seq = s.seq := rfl
@[simp] theorem switchProgram_out (s : State) : (switchProgram s).out = s.out := rfl
@[simp] theorem switchProgram_table (s : State) : (switchProgram s).table = s.table := rfl
@[simp] theorem switchProgram_rawLevelReset (s : State) : (switchProgram s).rawLevelReset = s.rawLevelReset := rfl
@[simp] theorem switchProgram_lfsrOverrides (s : State) : (switchProgram s).lfsrOverrides = s.lfsrOverrides := rfl
@[simp] theorem switchProgram_input (s : State) : (switchProgram s).input = s.input := rfl
@[simp] theorem switchProgram_freeDraws (s : State) : (switchProgram s).freeDraws = s.freeDraws := rfl

@[simp] theorem acceptPress_fb (s : State) : (acceptPress s).fb = s.fb := rfl
@[simp] theorem acceptPress_lfsr (s : State) : (acceptPress s).lfsr = s.lfsr := rfl
@[simp] theorem acceptPress_starPhase (s : State) : (acceptPress s).starPhase = s.starPhase := rfl
@[simp] theorem acceptPress_programIndex (s : State) : (acceptPress s).programIndex = s.programIndex + 1 := rfl
@[simp] theorem acceptPress_frameIndex (s : State) : (acceptPress s).frameIndex = 0 := rfl
@[simp] theorem acceptPress_waitRemaining (s : State) : (acceptPress s).waitRemaining = 0 := rfl
@[simp] theorem acceptPress_xShift (s : State) : (acceptPress s).xShift = 0 := rfl
@[simp] theorem acceptPress_yShift (s : State) : (acceptPress s).yShift = 0 := rfl
@[simp] theorem acceptPress_prevRawLevel (s : State) : (acceptPress s).prevRawLevel = s.prevRawLevel := rfl
@[simp] theorem acceptPress_debounceCountdown (s : State) : (acceptPress s).debounceCountdown = Config.debounceReload := rfl
@[simp] theorem acceptPress_seq (s : State) : (acceptPress s).seq = s.seq := rfl
@[simp] theorem acceptPress_out (s : State) : (acceptPress s).out = s.out := rfl
@[simp] theorem acceptPress_table (s : State) : (acceptPress s).table = s.table := rfl
@[simp] theorem acceptPress_rawLevelReset (s : State) : (acceptPress s).rawLevelReset = s.rawLevelReset := rfl
@[simp] theorem acceptPress_lfsrOverrides (s : State) : (acceptPress s).lfsrOverrides = s.lfsrOverrides := rfl
@[simp] theorem acceptPress_input (s : State) : (acceptPress s).input = s.input := rfl
@[simp] theorem acceptPress_freeDraws (s : State) : (acceptPress s).freeDraws = s.freeDraws := rfl

@[simp] theorem resetRegisters_fb (s : State) : (resetRegisters s).fb = Config.fbReset := rfl
@[simp] theorem resetRegisters_lfsr (s : State) : (resetRegisters s).lfsr = Config.lfsrSeed := rfl
@[simp] theorem resetRegisters_starPhase (s : State) : (resetRegisters s).starPhase = 0 := rfl
@[simp] theorem resetRegisters_programIndex (s : State) : (resetRegisters s).programIndex = 0 := rfl
@[simp] theorem resetRegisters_frameIndex (s : State) : (resetRegisters s).frameIndex = 0 := rfl
@[simp] theorem resetRegisters_waitRemaining (s : State) : (resetRegisters s).waitRemaining = 0 := rfl
@[simp] theorem resetRegisters_xShift (s : State) : (resetRegisters s).xShift = 0 := rfl
@[simp] theorem resetRegisters_yShift (s : State) : (resetRegisters s).yShift = 0 := rfl
@[simp] theorem resetRegisters_prevRawLevel (s : State) : (resetRegisters s).prevRawLevel = s.rawLevelReset := rfl
@[simp] theorem resetRegisters_debounceCountdown (s : State) : (resetRegisters s).debounceCountdown = 0 := rfl
@[simp] theorem resetRegisters_seq (s : State) : (resetRegisters s).seq = 0 := rfl
@[simp] theorem resetRegisters_out (s : State) : (resetRegisters s).out = s.out := rfl
@[simp] theorem resetRegisters_table (s : State) : (resetRegisters s).table = s.table := rfl
@[simp] theorem resetRegisters_rawLevelReset (s : State) : (resetRegisters s).rawLevelReset = s.rawLevelReset := rfl
@[simp] theorem resetRegisters_lfsrOverrides (s : State) : (resetRegisters s).lfsrOverrides = s.lfsrOverrides := rfl
@[simp] theorem resetRegisters_input (s : State) : (resetRegisters s).input = s.input := rfl
@[simp] theorem resetRegisters_freeDraws (s : State) : (resetRegisters s).freeDraws = s.freeDraws := rfl

@[simp] theorem afterFetch_fb (s : State) : (afterFetch s).fb = s.fb := rfl
@[simp] theorem afterFetch_lfsr (s : State) : (afterFetch s).lfsr = s.lfsr := rfl
@[simp] theorem afterFetch_starPhase (s : State) : (afterFetch s).starPhase = s.starPhase := rfl
@[simp] theorem afterFetch_programIndex (s : State) : (afterFetch s).programIndex = s.programIndex := rfl
@[simp] theorem afterFetch_frameIndex (s : State) : (afterFetch s).frameIndex = s.frameIndex := rfl
@[simp] theorem afterFetch_waitRemaining (s : State) : (afterFetch s).waitRemaining = s.waitRemaining := rfl
@[simp] theorem afterFetch_xShift (s : State) : (afterFetch s).xShift = s.xShift := rfl
@[simp] theorem afterFetch_yShift (s : State) : (afterFetch s).yShift = s.yShift := rfl
@[simp] theorem afterFetch_prevRawLevel (s : State) : (afterFetch s).prevRawLevel = s.prevRawLevel := rfl
@[simp] theorem afterFetch_debounceCountdown (s : State) : (afterFetch s).debounceCountdown = s.debounceCountdown := rfl
@[simp] theorem afterFetch_seq (s : State) : (afterFetch s).seq = s.seq := rfl
@[simp] theorem afterFetch_out (s : State) : (afterFetch s).out = s.out := rfl
@[simp] theorem afterFetch_table (s : State) : (afterFetch s).table = s.table := rfl
@[simp] theorem afterFetch_rawLevelReset (s : State) : (afterFetch s).rawLevelReset = s.rawLevelReset := rfl
@[simp] theorem afterFetch_lfsrOverrides (s : State) : (afterFetch s).lfsrOverrides = s.lfsrOverrides := rfl
@[simp] theorem afterFetch_input (s : State) : (afterFetch s).input = s.input.tail := rfl
@[simp] theorem afterFetch_freeDraws (s : State) : (afterFetch s).freeDraws = s.freeDraws := rfl
@[simp] theorem afterFetch_selected (s : State) : selected (afterFetch s) = selected s := rfl

@[simp] theorem lightDrawnLamp_fb (s : State) : (lightDrawnLamp s).fb = lampBit (drawnPosition s) := rfl
@[simp] theorem lightDrawnLamp_lfsr (s : State) : (lightDrawnLamp s).lfsr = s.lfsr := rfl
@[simp] theorem lightDrawnLamp_starPhase (s : State) : (lightDrawnLamp s).starPhase = s.starPhase := rfl
@[simp] theorem lightDrawnLamp_programIndex (s : State) : (lightDrawnLamp s).programIndex = s.programIndex := rfl
@[simp] theorem lightDrawnLamp_frameIndex (s : State) : (lightDrawnLamp s).frameIndex = s.frameIndex := rfl
@[simp] theorem lightDrawnLamp_waitRemaining (s : State) : (lightDrawnLamp s).waitRemaining = s.waitRemaining := rfl
@[simp] theorem lightDrawnLamp_xShift (s : State) : (lightDrawnLamp s).xShift = s.xShift := rfl
@[simp] theorem lightDrawnLamp_yShift (s : State) : (lightDrawnLamp s).yShift = s.yShift := rfl
@[simp] theorem lightDrawnLamp_prevRawLevel (s : State) : (lightDrawnLamp s).prevRawLevel = s.prevRawLevel := rfl
@[simp] theorem lightDrawnLamp_debounceCountdown (s : State) : (lightDrawnLamp s).debounceCountdown = s.debounceCountdown := rfl
@[simp] theorem lightDrawnLamp_seq (s : State) : (lightDrawnLamp s).seq = s.seq := rfl
@[simp] theorem lightDrawnLamp_out (s : State) : (lightDrawnLamp s).out = s.out := rfl
@[simp] theorem lightDrawnLamp_table (s : State) : (lightDrawnLamp s).table = s.table := rfl
@[simp] theorem lightDrawnLamp_rawLevelReset (s : State) : (lightDrawnLamp s).rawLevelReset = s.rawLevelReset := rfl
@[simp] theorem lightDrawnLamp_lfsrOverrides (s : State) : (lightDrawnLamp s).lfsrOverrides = s.lfsrOverrides := rfl
@[simp] theorem lightDrawnLamp_input (s : State) : (lightDrawnLamp s).input = s.input := rfl
@[simp] theorem lightDrawnLamp_freeDraws (s : State) : (lightDrawnLamp s).freeDraws = s.freeDraws := rfl
@[simp] theorem lightDrawnLamp_selected (s : State) : selected (lightDrawnLamp s) = selected s := rfl

@[simp] theorem clearFb_fb (s : State) : (clearFb s).fb = 0 := rfl
@[simp] theorem clearFb_lfsr (s : State) : (clearFb s).lfsr = s.lfsr := rfl
@[simp] theorem clearFb_starPhase (s : State) : (clearFb s).starPhase = s.starPhase := rfl
@[simp] theorem clearFb_programIndex (s : State) : (clearFb s).programIndex = s.programIndex := rfl
@[simp] theorem clearFb_frameIndex (s : State) : (clearFb s).frameIndex = s.frameIndex := rfl
@[simp] theorem clearFb_waitRemaining (s : State) : (clearFb s).waitRemaining = s.waitRemaining := rfl
@[simp] theorem clearFb_xShift (s : State) : (clearFb s).xShift = s.xShift := rfl
@[simp] theorem clearFb_yShift (s : State) : (clearFb s).yShift = s.yShift := rfl
@[simp] theorem clearFb_prevRawLevel (s : State) : (clearFb s).prevRawLevel = s.prevRawLevel := rfl
@[simp] theorem clearFb_debounceCountdown (s : State) : (clearFb s).debounceCountdown = s.debounceCountdown := rfl
@[simp] theorem clearFb_seq (s : State) : (clearFb s).seq = s.seq := rfl
@[simp] theorem clearFb_out (s : State) : (clearFb s).out = s.out := rfl
@[simp] theorem clearFb_table (s : State) : (clearFb s).table = s.table := rfl
@[simp] theorem clearFb_rawLevelReset (s : State) : (clearFb s).rawLevelReset = s.rawLevelReset := rfl
@[simp] theorem clearFb_lfsrOverrides (s : State) : (clearFb s).lfsrOverrides = s.lfsrOverrides := rfl
@[simp] theorem clearFb_input (s : State) : (clearFb s).input = s.input := rfl
@[simp] theorem clearFb_freeDraws (s : State) : (clearFb s).freeDraws = s.freeDraws := rfl
@[simp] theorem clearFb_selected (s : State) : selected (clearFb s) = selected s := rfl

@[simp] theorem stepStarPhase_fb (s : State) : (stepStarPhase s).fb = s.fb := rfl
@[simp] theorem stepStarPhase_lfsr (s : State) : (stepStarPhase s).lfsr = s.lfsr := rfl
@[simp] theorem stepStarPhase_starPhase (s : State) : (stepStarPhase s).starPhase = s.starPhase + 1 := rfl
@[simp] theorem stepStarPhase_programIndex (s : State) : (stepStarPhase s).programIndex = s.programIndex := rfl
@[simp] theorem stepStarPhase_frameIndex (s : State) : (stepStarPhase s).frameIndex = s.frameIndex := rfl
@[simp] theorem stepStarPhase_waitRemaining (s : State) : (stepStarPhase s).waitRemaining = s.waitRemaining := rfl
@[simp] theorem stepStarPhase_xShift (s : State) : (stepStarPhase s).xShift = s.xShift := rfl
@[simp] theorem stepStarPhase_yShift (s : State) : (stepStarPhase s).yShift = s.yShift := rfl
@[simp] theorem stepStarPhase_prevRawLevel (s : State) : (stepStarPhase s).prevRawLevel = s.prevRawLevel := rfl
@[simp] theorem stepStarPhase_debounceCountdown (s : State) : (stepStarPhase s).debounceCountdown = s.debounceCountdown := rfl
@[simp] theorem stepStarPhase_seq (s : State) : (stepStarPhase s).seq = s.seq := rfl
@[simp] theorem stepStarPhase_out (s : State) : (stepStarPhase s).out = s.out := rfl
@[simp] theorem stepStarPhase_table (s : State) : (stepStarPhase s).table = s.table := rfl
@[simp] theorem stepStarPhase_rawLevelReset (s : State) : (stepStarPhase s).rawLevelReset = s.rawLevelReset := rfl
@[simp] theorem stepStarPhase_lfsrOverrides (s : State) : (stepStarPhase s).lfsrOverrides = s.lfsrOverrides := rfl
@[simp] theorem stepStarPhase_input (s : State) : (stepStarPhase s).input = s.input := rfl
@[simp] theorem stepStarPhase_freeDraws (s : State) : (stepStarPhase s).freeDraws = s.freeDraws := rfl
@[simp] theorem stepStarPhase_selected (s : State) : selected (stepStarPhase s) = selected s := rfl

@[simp] theorem rememberLevel_fb (l : Bool) (s : State) : (rememberLevel l s).fb = s.fb := rfl
@[simp] theorem rememberLevel_lfsr (l : Bool) (s : State) : (rememberLevel l s).lfsr = s.lfsr := rfl
@[simp] theorem rememberLevel_starPhase (l : Bool) (s : State) : (rememberLevel l s).starPhase = s.starPhase := rfl
@[simp] theorem rememberLevel_programIndex (l : Bool) (s : State) : (rememberLevel l s).programIndex = s.programIndex := rfl
@[simp] theorem rememberLevel_frameIndex (l : Bool) (s : State) : (rememberLevel l s).frameIndex = s.frameIndex := rfl
@[simp] theorem rememberLevel_waitRemaining (l : Bool) (s : State) : (rememberLevel l s).waitRemaining = s.waitRemaining := rfl
@[simp] theorem rememberLevel_xShift (l : Bool) (s : State) : (rememberLevel l s).xShift = s.xShift := rfl
@[simp] theorem rememberLevel_yShift (l : Bool) (s : State) : (rememberLevel l s).yShift = s.yShift := rfl
@[simp] theorem rememberLevel_prevRawLevel (l : Bool) (s : State) : (rememberLevel l s).prevRawLevel = l := rfl
@[simp] theorem rememberLevel_debounceCountdown (l : Bool) (s : State) : (rememberLevel l s).debounceCountdown = s.debounceCountdown := rfl
@[simp] theorem rememberLevel_seq (l : Bool) (s : State) : (rememberLevel l s).seq = s.seq := rfl
@[simp] theorem rememberLevel_out (l : Bool) (s : State) : (rememberLevel l s).out = s.out := rfl
@[simp] theorem rememberLevel_table (l : Bool) (s : State) : (rememberLevel l s).table = s.table := rfl
@[simp] theorem rememberLevel_rawLevelReset (l : Bool) (s : State) : (rememberLevel l s).rawLevelReset = s.rawLevelReset := rfl
@[simp] theorem rememberLevel_lfsrOverrides (l : Bool) (s : State) : (rememberLevel l s).lfsrOverrides = s.lfsrOverrides := rfl
@[simp] theorem rememberLevel_input (l : Bool) (s : State) : (rememberLevel l s).input = s.input := rfl
@[simp] theorem rememberLevel_freeDraws (l : Bool) (s : State) : (rememberLevel l s).freeDraws = s.freeDraws := rfl
@[simp] theorem rememberLevel_selected (l : Bool) (s : State) : selected (rememberLevel l s) = selected s := rfl

@[simp] theorem starAction_starPhase (s : State) : (starAction s).starPhase = s.starPhase := by
  unfold starAction; split <;> rfl
@[simp] theorem starAction_programIndex (s : State) : (starAction s).programIndex = s.programIndex := by
  unfold starAction; split <;> rfl
@[simp] theorem starAction_frameIndex (s : State) : (starAction s).frameIndex = s.frameIndex := by
  unfold starAction; split <;> rfl
@[simp] theorem starAction_waitRemaining (s : State) : (starAction s).waitRemaining = s.waitRemaining := by
  unfold starAction; split <;> rfl
@[simp] theorem starAction_xShift (s : State) : (starAction s).xShift = s.xShift := by
  unfold starAction; split <;> rfl
@[simp] theorem starAction_yShift (s : State) : (starAction s).yShift = s.yShift := by
  unfold starAction; split <;> rfl
@[simp] theorem starAction_prevRawLevel (s : State) : (starAction s).prevRawLevel = s.prevRawLevel := by
  unfold starAction; split <;> rfl
@[simp] theorem starAction_debounceCountdown (s : State) : (starAction s).debounceCountdown = s.debounceCountdown := by
  unfold starAction; split <;> rfl
@[simp] theorem starAction_seq (s : State) : (starAction s).seq = s.seq := by
  unfold starAction; split <;> rfl
@[simp] theorem starAction_out (s : State) : (starAction s).out = s.out := by
  unfold starAction; split <;> rfl
@[simp] theorem starAction_table (s : State) : (starAction s).table = s.table := by
  unfold starAction; split <;> rfl
@[simp] theorem starAction_rawLevelReset (s : State) : (starAction s).rawLevelReset = s.rawLevelReset := by
  unfold starAction; split <;> rfl
@[simp] theorem starAction_lfsrOverrides (s : State) : (starAction s).lfsrOverrides = s.lfsrOverrides := by
  unfold starAction; split <;> rfl
@[simp] theorem starAction_input (s : State) : (starAction s).input = s.input := by
  unfold starAction; split <;> rfl
@[simp] theorem starAction_freeDraws (s : State) : (starAction s).freeDraws = s.freeDraws := by
  unfold starAction; split <;> rfl
@[simp] theorem starAction_selected (s : State) : selected (starAction s) = selected s := by
  simp [selected]

@[simp] theorem starHook_programIndex (s : State) : (starHook s).programIndex = s.programIndex := by
  simp [starHook]
@[simp] theorem starHook_frameIndex (s : State) : (starHook s).frameIndex = s.frameIndex := by
  simp [starHook]
@[simp] theorem starHook_waitRemaining (s : State) : (starHook s).waitRemaining = s.waitRemaining := by
  simp [starHook]
@[simp] theorem starHook_xShift (s : State) : (starHook s).xShift = s.xShift := by
  simp [starHook]
@[simp] theorem starHook_yShift (s : State) : (starHook s).yShift = s.yShift := by
  simp [starHook]
@[simp] theorem starHook_prevRawLevel (s : State) : (starHook s).prevRawLevel = s.prevRawLevel := by
  simp [starHook]
@[simp] theorem starHook_debounceCountdown (s : State) : (starHook s).debounceCountdown = s.debounceCountdown := by
  simp [starHook]
@[simp] theorem starHook_seq (s : State) : (starHook s).seq = s.seq := by
  simp [starHook]
@[simp] theorem starHook_out (s : State) : (starHook s).out = s.out := by
  simp [starHook]
@[simp] theorem starHook_table (s : State) : (starHook s).table = s.table := by
  simp [starHook]
@[simp] theorem starHook_rawLevelReset (s : State) : (starHook s).rawLevelReset = s.rawLevelReset := by
  simp [starHook]
@[simp] theorem starHook_lfsrOverrides (s : State) : (starHook s).lfsrOverrides = s.lfsrOverrides := by
  simp [starHook]
@[simp] theorem starHook_input (s : State) : (starHook s).input = s.input := by
  simp [starHook]
@[simp] theorem starHook_freeDraws (s : State) : (starHook s).freeDraws = s.freeDraws := by
  simp [starHook]
@[simp] theorem starHook_selected (s : State) : selected (starHook s) = selected s := by
  simp [selected]

@[simp] theorem starHook_starPhase (s : State) : (starHook s).starPhase = s.starPhase + 1 := by
  simp [starHook]

@[simp] theorem countWait_fb (s : State) : (countWait s).fb = s.fb := by
  unfold countWait; split <;> [rfl; (split <;> rfl)]
@[simp] theorem countWait_lfsr (s : State) : (countWait s).lfsr = s.lfsr := by
  unfold countWait; split <;> [rfl; (split <;> rfl)]
@[simp] theorem countWait_starPhase (s : State) : (countWait s).starPhase = s.starPhase := by
  unfold countWait; split <;> [rfl; (split <;> rfl)]
@[simp] theorem countWait_programIndex (s : State) : (countWait s).programIndex = s.programIndex := by
  unfold countWait; split <;> [rfl; (split <;> rfl)]
@[simp] theorem countWait_frameIndex (s : State) : (countWait s).frameIndex = s.frameIndex := by
  unfold countWait; split <;> [rfl; (split <;> rfl)]
@[simp] theorem countWait_xShift (s : State) : (countWait s).xShift = s.xShift := by
  unfold countWait; split <;> [rfl; (split <;> rfl)]
@[simp] theorem countWait_yShift (s : State) : (countWait s).yShift = s.yShift := by
  unfold countWait; split <;> [rfl; (split <;> rfl)]
@[simp] theorem countWait_prevRawLevel (s : State) : (countWait s).prevRawLevel = s.prevRawLevel := by
  unfold countWait; split <;> [rfl; (split <;> rfl)]
@[simp] theorem countWait_debounceCountdown (s : State) : (countWait s).debounceCountdown = s.debounceCountdown := by
  unfold countWait; split <;> [rfl; (split <;> rfl)]
@[simp] theorem countWait_seq (s : State) : (countWait s).seq = s.seq := by
  unfold countWait; split <;> [rfl; (split <;> rfl)]
@[simp] theorem countWait_out (s : State) : (countWait s).out = s.out := by
  unfold countWait; split <;> [rfl; (split <;> rfl)]
@[simp] theorem countWait_table (s : State) : (countWait s).table = s.table := by
  unfold countWait; split <;> [rfl; (split <;> rfl)]
@[simp] theorem countWait_rawLevelReset (s : State) : (countWait s).rawLevelReset = s.rawLevelReset := by
  unfold countWait; split <;> [rfl; (split <;> rfl)]
@[simp] theorem countWait_lfsrOverrides (s : State) : (countWait s).lfsrOverrides = s.lfsrOverrides := by
  unfold countWait; split <;> [rfl; (split <;> rfl)]
@[simp] theorem countWait_input (s : State) : (countWait s).input = s.input := by
  unfold countWait; split <;> [rfl; (split <;> rfl)]
@[simp] theorem countWait_selected (s : State) : selected (countWait s) = selected s := by
  simp [selected]

@[simp] theorem runHook_programIndex (h : Hook) (s : State) : (runHook h s).programIndex = s.programIndex := by
  cases h <;> simp [runHook]
@[simp] theorem runHook_frameIndex (h : Hook) (s : State) : (runHook h s).frameIndex = s.frameIndex := by
  cases h <;> simp [runHook]
@[simp] theorem runHook_waitRemaining (h : Hook) (s : State) : (runHook h s).waitRemaining = s.waitRemaining := by
  cases h <;> simp [runHook]
@[simp] theorem runHook_prevRawLevel (h : Hook) (s : State) : (runHook h s).prevRawLevel = s.prevRawLevel := by
  cases h <;> simp [runHook]
@[simp] theorem runHook_debounceCountdown (h : Hook) (s : State) : (runHook h s).debounceCountdown = s.debounceCountdown := by
  cases h <;> simp [runHook]
@[simp] theorem runHook_seq (h : Hook) (s : State) : (runHook h s).seq = s.seq := by
  cases h <;> simp [runHook]
@[simp] theorem runHook_out (h : Hook) (s : State) : (runHook h s).out = s.out := by
  cases h <;> simp [runHook]
@[simp] theorem runHook_table (h : Hook) (s : State) : (runHook h s).table = s.table := by
  cases h <;> simp [runHook]
@[simp] theorem runHook_rawLevelReset (h : Hook) (s : State) : (runHook h s).rawLevelReset = s.rawLevelReset := by
  cases h <;> simp [runHook]
@[simp] theorem runHook_lfsrOverrides (h : Hook) (s : State) : (runHook h s).lfsrOverrides = s.lfsrOverrides := by
  cases h <;> simp [runHook]
@[simp] theorem runHook_input (h : Hook) (s : State) : (runHook h s).input = s.input := by
  cases h <;> simp [runHook]
@[simp] theorem runHook_freeDraws (h : Hook) (s : State) : (runHook h s).freeDraws = s.freeDraws := by
  cases h <;> simp [runHook]
@[simp] theorem runHook_selected (h : Hook) (s : State) : selected (runHook h s) = selected s := by
  simp [selected]

@[simp] theorem renderIfAny_lfsr (d : Descriptor) (s : State) : (renderIfAny d s).lfsr = s.lfsr := by
  unfold renderIfAny; split <;> rfl
@[simp] theorem renderIfAny_starPhase (d : Descriptor) (s : State) : (renderIfAny d s).starPhase = s.starPhase := by
  unfold renderIfAny; split <;> rfl
@[simp] theorem renderIfAny_programIndex (d : Descriptor) (s : State) : (renderIfAny d s).programIndex = s.programIndex := by
  unfold renderIfAny; split <;> rfl
@[simp] theorem renderIfAny_frameIndex (d : Descriptor) (s : State) : (renderIfAny d s).frameIndex = s.frameIndex := by
  unfold renderIfAny; split <;> rfl
@[simp] theorem renderIfAny_waitRemaining (d : Descriptor) (s : State) : (renderIfAny d s).waitRemaining = s.waitRemaining := by
  unfold renderIfAny; split <;> rfl
@[simp] theorem renderIfAny_xShift (d : Descriptor) (s : State) : (renderIfAny d s).xShift = s.xShift := by
  unfold renderIfAny; split <;> rfl
@[simp] theorem renderIfAny_yShift (d : Descriptor) (s : State) : (renderIfAny d s).yShift = s.yShift := by
  unfold renderIfAny; split <;> rfl
@[simp] theorem renderIfAny_prevRawLevel (d : Descriptor) (s : State) : (renderIfAny d s).prevRawLevel = s.prevRawLevel := by
  unfold renderIfAny; split <;> rfl
@[simp] theorem renderIfAny_debounceCountdown (d : Descriptor) (s : State) : (renderIfAny d s).debounceCountdown = s.debounceCountdown := by
  unfold renderIfAny; split <;> rfl
@[simp] theorem renderIfAny_seq (d : Descriptor) (s : State) : (renderIfAny d s).seq = s.seq := by
  unfold renderIfAny; split <;> rfl
@[simp] theorem renderIfAny_out (d : Descriptor) (s : State) : (renderIfAny d s).out = s.out := by
  unfold renderIfAny; split <;> rfl
@[simp] theorem renderIfAny_table (d : Descriptor) (s : State) : (renderIfAny d s).table = s.table := by
  unfold renderIfAny; split <;> rfl
@[simp] theorem renderIfAny_rawLevelReset (d : Descriptor) (s : State) : (renderIfAny d s).rawLevelReset = s.rawLevelReset := by
  unfold renderIfAny; split <;> rfl
@[simp] theorem renderIfAny_lfsrOverrides (d : Descriptor) (s : State) : (renderIfAny d s).lfsrOverrides = s.lfsrOverrides := by
  unfold renderIfAny; split <;> rfl
@[simp] theorem renderIfAny_input (d : Descriptor) (s : State) : (renderIfAny d s).input = s.input := by
  unfold renderIfAny; split <;> rfl
@[simp] theorem renderIfAny_freeDraws (d : Descriptor) (s : State) : (renderIfAny d s).freeDraws = s.freeDraws := by
  unfold renderIfAny; split <;> rfl
@[simp] theorem renderIfAny_selected (d : Descriptor) (s : State) : selected (renderIfAny d s) = selected s := by
  simp [selected]

@[simp] theorem fire_programIndex (s : State) : (fire s).programIndex = s.programIndex := by
  simp [fire]
@[simp] theorem fire_prevRawLevel (s : State) : (fire s).prevRawLevel = s.prevRawLevel := by
  simp [fire]
@[simp] theorem fire_debounceCountdown (s : State) : (fire s).debounceCountdown = s.debounceCountdown := by
  simp [fire]
@[simp] theorem fire_seq (s : State) : (fire s).seq = s.seq := by
  simp [fire]
@[simp] theorem fire_out (s : State) : (fire s).out = s.out := by
  simp [fire]
@[simp] theorem fire_table (s : State) : (fire s).table = s.table := by
  simp [fire]
@[simp] theorem fire_rawLevelReset (s : State) : (fire s).rawLevelReset = s.rawLevelReset := by
  simp [fire]
@[simp] theorem fire_lfsrOverrides (s : State) : (fire s).lfsrOverrides = s.lfsrOverrides := by
  simp [fire]
@[simp] theorem fire_input (s : State) : (fire s).input = s.input := by
  simp [fire]
@[simp] theorem fire_freeDraws (s : State) : (fire s).freeDraws = s.freeDraws := by
  simp [fire]
@[simp] theorem fire_selected (s : State) : selected (fire s) = selected s := by
  simp [selected]

@[simp] theorem schedule_programIndex (s : State) : (schedule s).programIndex = s.programIndex := by
  unfold schedule; split <;> simp
@[simp] theorem schedule_prevRawLevel (s : State) : (schedule s).prevRawLevel = s.prevRawLevel := by
  unfold schedule; split <;> simp
@[simp] theorem schedule_debounceCountdown (s : State) : (schedule s).debounceCountdown = s.debounceCountdown := by
  unfold schedule; split <;> simp
@[simp] theorem schedule_seq (s : State) : (schedule s).seq = s.seq := by
  unfold schedule; split <;> simp
@[simp] theorem schedule_out (s : State) : (schedule s).out = s.out := by
  unfold schedule; split <;> simp
@[simp] theorem schedule_table (s : State) : (schedule s).table = s.table := by
  unfold schedule; split <;> simp
@[simp] theorem schedule_rawLevelReset (s : State) : (schedule s).rawLevelReset = s.rawLevelReset := by
  unfold schedule; split <;> simp
@[simp] theorem schedule_lfsrOverrides (s : State) : (schedule s).lfsrOverrides = s.lfsrOverrides := by
  unfold schedule; split <;> simp
@[simp] theorem schedule_input (s : State) : (schedule s).input = s.input := by
  unfold schedule; split <;> simp
@[simp] theorem schedule_selected (s : State) : selected (schedule s) = selected s := by
  simp [selected]

@[simp] theorem handleEdge_fb (l : Bool) (s : State) : (handleEdge l s).fb = s.fb := by
  unfold handleEdge; split <;> [rfl; (simp; split <;> rfl)]
@[simp] theorem handleEdge_lfsr (l : Bool) (s : State) : (handleEdge l s).lfsr = s.lfsr := by
  unfold handleEdge; split <;> [rfl; (simp; split <;> rfl)]
@[simp] theorem handleEdge_starPhase (l : Bool) (s : State) : (handleEdge l s).starPhase = s.starPhase := by
  unfold handleEdge; split <;> [rfl; (simp; split <;> rfl)]
@[simp] theorem handleEdge_seq (l : Bool) (s : State) : (handleEdge l s).seq = s.seq := by
  unfold handleEdge; split <;> [rfl; (simp; split <;> rfl)]
@[simp] theorem handleEdge_out (l : Bool) (s : State) : (handleEdge l s).out = s.out := by
  unfold handleEdge; split <;> [rfl; (simp; split <;> rfl)]
@[simp] theorem handleEdge_table (l : Bool) (s : State) : (handleEdge l s).table = s.table := by
  unfold handleEdge; split <;> [rfl; (simp; split <;> rfl)]
@[simp] theorem handleEdge_rawLevelReset (l : Bool) (s : State) : (handleEdge l s).rawLevelReset = s.rawLevelReset := by
  unfold handleEdge; split <;> [rfl; (simp; split <;> rfl)]
@[simp] theorem handleEdge_lfsrOverrides (l : Bool) (s : State) : (handleEdge l s).lfsrOverrides = s.lfsrOverrides := by
  unfold handleEdge; split <;> [rfl; (simp; split <;> rfl)]
@[simp] theorem handleEdge_input (l : Bool) (s : State) : (handleEdge l s).input = s.input := by
  unfold handleEdge; split <;> [rfl; (simp; split <;> rfl)]
@[simp] theorem handleEdge_freeDraws (l : Bool) (s : State) : (handleEdge l s).freeDraws = s.freeDraws := by
  unfold handleEdge; split <;> [rfl; (simp; split <;> rfl)]

@[simp] theorem countLockout_fb (s : State) : (countLockout s).fb = s.fb := by
  unfold countLockout; split <;> rfl
@[simp] theorem countLockout_lfsr (s : State) : (countLockout s).lfsr = s.lfsr := by
  unfold countLockout; split <;> rfl
@[simp] theorem countLockout_starPhase (s : State) : (countLockout s).starPhase = s.starPhase := by
  unfold countLockout; split <;> rfl
@[simp] theorem countLockout_programIndex (s : State) : (countLockout s).programIndex = s.programIndex := by
  unfold countLockout; split <;> rfl
@[simp] theorem countLockout_frameIndex (s : State) : (countLockout s).frameIndex = s.frameIndex := by
  unfold countLockout; split <;> rfl
@[simp] theorem countLockout_waitRemaining (s : State) : (countLockout s).waitRemaining = s.waitRemaining := by
  unfold countLockout; split <;> rfl
@[simp] theorem countLockout_xShift (s : State) : (countLockout s).xShift = s.xShift := by
  unfold countLockout; split <;> rfl
@[simp] theorem countLockout_yShift (s : State) : (countLockout s).yShift = s.yShift := by
  unfold countLockout; split <;> rfl
@[simp] theorem countLockout_prevRawLevel (s : State) : (countLockout s).prevRawLevel = s.prevRawLevel := by
  unfold countLockout; split <;> rfl
@[simp] theorem countLockout_seq (s : State) : (countLockout s).seq = s.seq := by
  unfold countLockout; split <;> rfl
@[simp] theorem countLockout_out (s : State) : (countLockout s).out = s.out := by
  unfold countLockout; split <;> rfl
@[simp] theorem countLockout_table (s : State) : (countLockout s).table = s.table := by
  unfold countLockout; split <;> rfl
@[simp] theorem countLockout_rawLevelReset (s : State) : (countLockout s).rawLevelReset = s.rawLevelReset := by
  unfold countLockout; split <;> rfl
@[simp] theorem countLockout_lfsrOverrides (s : State) : (countLockout s).lfsrOverrides = s.lfsrOverrides := by
  unfold countLockout; split <;> rfl
@[simp] theorem countLockout_input (s : State) : (countLockout s).input = s.input := by
  unfold countLockout; split <;> rfl
@[simp] theorem countLockout_freeDraws (s : State) : (countLockout s).freeDraws = s.freeDraws := by
  unfold countLockout; split <;> rfl
@[simp] theorem countLockout_selected (s : State) : selected (countLockout s) = selected s := by
  simp [selected]

@[simp] theorem fire_frameIndex (s : State) :
    (fire s).frameIndex = nextFrame (selected s).frameCount s.frameIndex := by
  cases h : (selected s).updateHook <;> simp [fire, runHook, h, renderIfAny] <;> split <;> rfl
@[simp] theorem fire_waitRemaining (s : State) : (fire s).waitRemaining = (selected s).frameDelay := by
  simp [fire]

end Sys2Proof.Machine
end

