-- ==== Sys2Proof/Laws/Ops.lean ====
section
/-! SUPPORT. What each shared operation can do, said once: the provers cite these instead of unfolding the operation. -/

namespace Sys2Proof.Machine

/-! ## Admission, exec, step -/

theorem admitAt_next_iff (k : Fin 6) (s n t : State) : admitAt k s n = .next t ↔ s.seq = k ∧ n = t := by
  unfold admitAt; split <;> simp_all

theorem admitAt_eq_next (k : Fin 6) (s n : State) (h : s.seq = k) : admitAt k s n = .next n := by
  simp [admitAt, h]

theorem admitAt_eq_refused (k : Fin 6) (s n : State) (h : s.seq ≠ k) : admitAt k s n = .refused .outOfSequence := by
  simp [admitAt, h]

/-- What an operation does to the state where it is admitted. -/
def effect : Instr → State → State
  | .scanRow y => fun s => setSeq (phaseAfterRow y) (driveRow y s)
  | .debDec => fun s => setSeq 5 (countLockout s)
  | .sched => fun s => setSeq 0 (schedule s)
  | .waitDec => countWait
  | .render => render
  | .advance => advanceFrame
  | .hookNone => noHook
  | .hookHShift => horizontalHook
  | .hookVShift => verticalHook
  | .hookStar => starHook
  | .reload => reloadWait
  | .lfsrStep => stepLfsr
  | .lfsrDraw => drawLfsr
  | .edge l => handleEdge l
  | .switch => switchProgram
  | .reset => resetRegisters

/-- An operation answers a next state exactly where it has no phase or `SEQ` is its phase, and that state is its effect. -/
theorem exec_next_iff (i : Instr) (s t : State) :
    exec i s = .next t ↔ (∀ k, phaseOf i = some k → s.seq = k) ∧ effect i s = t := by
  cases i <;>
    simp [exec, effect, phaseOf, execScanRow, execDebDec, execSched, execWaitDec, execRender, execAdvance, execHookNone,
      execHookHShift, execHookVShift, execHookStar, execReload, execLfsrStep, execLfsrDraw, execEdge, execSwitch, execReset,
      admitAt_next_iff, phaseOfRow, interruptReturn, interruptEntry]

theorem exec_eq_next (i : Instr) (s : State) (h : ∀ k, phaseOf i = some k → s.seq = k) : exec i s = .next (effect i s) :=
  (exec_next_iff i s _).2 ⟨h, rfl⟩

/-- A step that answers a next state ran one decoded operation, from the state after the fetch. -/
theorem step_next_cases {s t : State} (h : step s = .next t) :
    ∃ i, decode (nextWord s).word = .ok i ∧ admittedAtLevel (nextWord s).level i = true ∧
      exec i (afterFetch s) = .next t := by
  unfold step takeWord at h
  split at h
  · cases h
  · split at h
    · exact ⟨_, ‹_›, ‹_›, h⟩
    · cases h

theorem step_of_decode {s : State} {i : Instr} (hd : decode (nextWord s).word = .ok i)
    (ha : admittedAtLevel (nextWord s).level i = true) : step s = exec i (afterFetch s) := by
  simp [step, takeWord, hd, ha]

theorem nextWord_nil {s : State} (h : s.input = []) : nextWord s = ⟨.top, sequencerWord s.seq⟩ := by
  simp [nextWord, h]

theorem nextWord_cons {s : State} {w : TraceWord} {rest : List TraceWord} (h : s.input = w :: rest) : nextWord s = w := by
  simp [nextWord, h]

theorem afterFetch_nil {s : State} (h : s.input = []) : afterFetch s = s := by
  cases s; simp_all [afterFetch]

/-- The operation the main sequencer takes in phase `k` (R230). -/
def sequencerOp (k : Fin 6) : Instr :=
  match k.val with
  | 0 => .scanRow 0
  | 1 => .scanRow 1
  | 2 => .scanRow 2
  | 3 => .scanRow 3
  | 4 => .debDec
  | _ => .sched

theorem decode_sequencerWord (k : Fin 6) : decode (sequencerWord k) = .ok (sequencerOp k) := by
  revert k; decide

theorem phaseOf_sequencerOp (k : Fin 6) : phaseOf (sequencerOp k) = some k := by
  revert k; decide

/-- With no word placed, a step is the effect of the main sequencer's own operation. -/
theorem step_nil {s : State} (h : s.input = []) : step s = .next (effect (sequencerOp s.seq) s) := by
  have hd : decode (nextWord s).word = .ok (sequencerOp s.seq) := by
    rw [nextWord_nil h]; exact decode_sequencerWord _
  have ha : admittedAtLevel (nextWord s).level (sequencerOp s.seq) = true := by
    rw [nextWord_nil h]
    generalize s.seq = k
    revert k; decide
  rw [step_of_decode hd ha, afterFetch_nil h]
  exact exec_eq_next _ _ (by simp [phaseOf_sequencerOp])

/-! ## Runs -/

theorem run_zero (s : State) : run 0 s = .next s := rfl

theorem run_succ_of_next {k : Nat} {s t : State} (h : step s = .next t) : run (k + 1) s = run k t := by
  simp [run, h]

/-- Runs compose. -/
theorem run_add {j k : Nat} {s t : State} (h : run j s = .next t) : run (j + k) s = run k t := by
  induction j generalizing s with
  | zero => cases h; simp
  | succ j ih =>
    unfold run at h
    split at h
    · rw [Nat.succ_add, run_succ_of_next ‹_›, ih h]
    · cases h
    · cases h

theorem execAll_cons_of_next {i : Instr} {rest : List Instr} {s t : State} (h : exec i s = .next t) :
    execAll (i :: rest) s = execAll rest t := by
  simp [execAll, h]

/-- Lists of operations compose. -/
theorem execAll_append {is js : List Instr} {s t : State} (h : execAll is s = .next t) :
    execAll (is ++ js) s = execAll js t := by
  induction is generalizing s with
  | nil => cases h; rfl
  | cons i is ih =>
    unfold execAll at h
    split at h
    · rw [List.cons_append, execAll_cons_of_next ‹_›, ih h]
    · cases h
    · cases h

/-! ## The shared operations -/

theorem frameRead_of_some {t : ProgramTable} {i : Fin 7} {j : Nat} {f : Frame} (h : t[i].frames[j]? = some f) :
    frameRead t i j = f := by
  simp only [frameRead, h, Option.getD_some]

/-- Over a well-formed table every frame number of an in-range cursor is stored (R68). -/
theorem sourceFrame_mem {s : State} (ht : s.table.Wf) (hr : FrameInRange s) (hn : (selected s).frameCount ≠ 0) :
    sourceFrame s ∈ (selected s).frames := by
  have hw := ht s.programIndex
  have hl : (selected s).frames.length = if (selected s).isVirtual then 1 else (selected s).frameCount.toNat :=
    of_decide_eq_true hw
  have hj : sourceFrameNumber (selected s) s.frameIndex < (selected s).frames.length := by
    rw [hl]
    unfold sourceFrameNumber
    split
    · omega
    · exact hr.1 hn
  have hs : sourceFrame s = (selected s).frames[sourceFrameNumber (selected s) s.frameIndex] :=
    frameRead_of_some (List.getElem?_eq_getElem hj)
  rw [hs]
  exact List.getElem_mem hj

theorem nextFrame_zero (f : BitVec 7) : nextFrame 0 f = 0 := by simp [nextFrame]

/-- The frame cursor after one step is below a non-zero count (R177). -/
theorem nextFrame_toNat {n : BitVec 7} (hn : n ≠ 0) (f : BitVec 7) :
    (nextFrame n f).toNat = (f.toNat + 1) % n.toNat := by
  have hpos : 0 < n.toNat := by
    rcases Nat.eq_zero_or_pos n.toNat with h | h
    · exact absurd (BitVec.eq_of_toNat_eq (by simpa using h)) hn
    · exact h
  have hlt := Nat.mod_lt (f.toNat + 1) hpos
  have hn' := n.isLt
  simp only [nextFrame, hn, if_false, BitVec.toNat_ofNat]
  exact Nat.mod_eq_of_lt (by omega)

theorem countWait_of_wait {s : State} (h : s.waitRemaining ≠ 0) :
    countWait s = { s with waitRemaining := if s.waitRemaining = 255 then 255 else s.waitRemaining - 1 } := by
  cases s
  simp_all [countWait, Config.waitSentinel]
  split <;> simp_all

theorem schedule_of_wait {s : State} (h : s.waitRemaining ≠ 0) : schedule s = countWait s := by
  have hw : waiting s = true := by unfold waiting; exact bne_iff_ne.2 h
  rw [schedule, if_pos hw]

theorem schedule_of_fire {s : State} (h : s.waitRemaining = 0) : schedule s = fire s := by
  simp [schedule, waiting, h]

theorem handleEdge_locked {l : Bool} {s : State} (h : s.debounceCountdown ≠ 0) : handleEdge l s = s := by
  have hl : lockedOut s = true := by unfold lockedOut; exact bne_iff_ne.2 h
  rw [handleEdge, if_pos hl]

theorem handleEdge_open {l : Bool} {s : State} (h : s.debounceCountdown = 0) :
    handleEdge l s = rememberLevel l (if s.prevRawLevel && !l then acceptPress s else s) := by
  simp [handleEdge, lockedOut, pressed, h]

/-- The lockout's countdown stops at 0 (R208). -/
theorem countLockout_toNat (s : State) :
    (countLockout s).debounceCountdown.toNat = s.debounceCountdown.toNat - 1 := by
  unfold countLockout lockedOut
  split
  · rename_i h
    have : s.debounceCountdown ≠ 0 := by simpa using h
    have : s.debounceCountdown.toNat ≠ 0 := fun h0 => this (BitVec.eq_of_toNat_eq (by simpa using h0))
    have := s.debounceCountdown.isLt
    have h1 : (1 : BitVec 8).toNat = 1 := rfl
    simp only [BitVec.toNat_sub, h1]
    omega
  · rename_i h
    have : s.debounceCountdown = 0 := by simpa using h
    simp [this]

/-! ## The LFSR's step function -/

@[simp] theorem lfsrStepBy_nil (v : LfsrWord) : lfsrStepBy [] v = lfsrStep v := rfl

/-- The listed successors of `f` are found again (R8). -/
theorem lookup_map_pair {α β : Type} [BEq α] [LawfulBEq α] (f : α → β) (v : α) (l : List α) (h : v ∈ l) :
    (l.map fun a => (a, f a)).lookup v = some (f v) := by
  induction l with
  | nil => cases h
  | cons a l ih =>
    rw [List.map_cons, List.lookup_cons]
    cases hv : v == a with
    | true => rw [eq_of_beq hv]
    | false => exact ih ((List.mem_cons.1 h).resolve_left (ne_of_beq_false hv))

/-- A step function chosen is the one in force (R131). -/
@[simp] theorem lfsrStepBy_overridesOf (f : LfsrWord → LfsrWord) (v : LfsrWord) : lfsrStepBy (overridesOf f) v = f v := by
  have hv : v ∈ (List.range (2 ^ 16)).map (BitVec.ofNat 16) :=
    List.mem_map.2 ⟨v.toNat, List.mem_range.2 v.isLt, by simp⟩
  have h := lookup_map_pair f v _ hv
  rw [List.map_map] at h
  unfold lfsrStepBy overridesOf
  rw [show (fun n => (BitVec.ofNat 16 n, f (BitVec.ofNat 16 n))) = (fun a => (a, f a)) ∘ BitVec.ofNat 16 from rfl, h]
  rfl

/-- A non-zero value has a non-zero successor: bit 15 of the mask is 1, or the value is even (R133 b). -/
theorem lfsrStep_ne_zero {v : LfsrWord} (h : v ≠ 0) : lfsrStep v ≠ 0 := by
  intro h0
  cases hb : v.getLsbD 0 with
  | true =>
    have h15 : (lfsrStep v).getLsbD 15 = true := by simp [lfsrStep, hb, Config.lfsrMask]
    rw [h0] at h15
    cases h15
  | false =>
    apply h
    apply BitVec.eq_of_getLsbD_eq
    intro i hi
    cases i with
    | zero => simpa using hb
    | succ j =>
      have hj : (v >>> 1).getLsbD j = false := by
        have : v >>> 1 = 0 := by
          unfold lfsrStep at h0
          rwa [hb] at h0
        rw [this]; simp
      simpa [Nat.add_comm] using hj

theorem admissibleStep_nil : AdmissibleStep [] := fun _ h => lfsrStep_ne_zero h

/-! ## The table at the ports -/

/-- The storage's answer at the address a state puts out (R110): the selected descriptor and the source frame. -/
theorem ptAnswer_tableAddress (s : State) : ptAnswer s.table (tableAddress s) =
    some { frameCount := (selected s).frameCount, isVirtual := (selected s).isVirtual, frameDelay := (selected s).frameDelay
           updateHook := (selected s).updateHook, frame := sourceFrame s } := by
  have hi : (tableAddress s).ptIndex.toNat = s.programIndex.val := by
    have h := s.programIndex.isLt
    simp only [tableAddress, BitVec.toNat_ofNat]
    omega
  have hj : (tableAddress s).frameIndex.toNat = sourceFrameNumber (selected s) s.frameIndex := by
    unfold tableAddress sourceFrameNumber
    split <;> rfl
  unfold ptAnswer
  rw [dif_pos (by rw [hi]; exact s.programIndex.isLt)]
  simp only [hi, hj]
  rfl

/-! ## Rows of a frame -/

theorem rowOf_bit (f : Frame) (r : BitVec 2) (c : Nat) (hc : c < 4) :
    (rowOf f r).getLsbD c = f.getLsbD (4 * r.toNat + c) := by
  simp [rowOf, hc]

/-- Bit `i` of an assembled frame is bit `i mod 4` of row `i / 4` (R63). -/
theorem assembleRows_bit (rows : BitVec 2 → Nibble) (i : Nat) :
    (assembleRows rows).getLsbD i =
      if i < 4 then (rows 0).getLsbD i else if i - 4 < 4 then (rows 1).getLsbD (i - 4)
      else if i - 4 - 4 < 4 then (rows 2).getLsbD (i - 4 - 4) else (rows 3).getLsbD (i - 4 - 4 - 4) := by
  have h : (assembleRows rows).getLsbD i =
      (rows 3 ++ rows 2 ++ rows 1 ++ rows 0 : BitVec (4 + 4 + 4 + 4)).getLsbD i := rfl
  rw [h]
  simp only [BitVec.getLsbD_append]

/-- The rows of an assembled frame are the rows it was assembled from (R63). -/
theorem rowOf_assembleRows (rows : BitVec 2 → Nibble) (y : BitVec 2) : rowOf (assembleRows rows) y = rows y := by
  have hy : y = 0 ∨ y = 1 ∨ y = 2 ∨ y = 3 := by revert y; decide
  apply BitVec.eq_of_getLsbD_eq
  intro c hc
  rw [rowOf_bit _ _ _ hc, assembleRows_bit]
  rcases hy with rfl | rfl | rfl | rfl
  · simp [hc]
  · simp [hc]
  · have h1 : ¬ 8 + c < 4 := by omega
    have h2 : ¬ 8 + c - 4 < 4 := by omega
    have h3 : 8 + c - 4 - 4 = c := by omega
    simp [h1, h2, h3, hc]
  · have h1 : ¬ 12 + c < 4 := by omega
    have h2 : ¬ 12 + c - 4 < 4 := by omega
    have h3 : ¬ 12 + c - 4 - 4 < 4 := by omega
    have h4 : 12 + c - 4 - 4 - 4 = c := by omega
    simp [h1, h2, h3, h4]

/-- Two frames with the same rows are the same frame. -/
theorem frame_ext_rows {f g : Frame} (h : ∀ y, rowOf f y = rowOf g y) : f = g := by
  apply BitVec.eq_of_getLsbD_eq
  intro i hi
  have hr : (BitVec.ofNat 2 (i / 4)).toNat = i / 4 := by
    simp only [BitVec.toNat_ofNat]; omega
  have hb : ∀ k : Frame, k.getLsbD i = (rowOf k (BitVec.ofNat 2 (i / 4))).getLsbD (i % 4) := by
    intro k
    rw [rowOf_bit _ _ _ (by omega), hr]
    congr 1; omega
  rw [hb f, hb g, h]

/-- The low nibble of a drive word is the row's data (R216). -/
theorem driveWord_data (fb : Frame) (y : BitVec 2) (c : Nat) (hc : c < 4) :
    (driveWord fb y).getLsbD c = fb.getLsbD (4 * y.toNat + c) := by
  have h : (driveWord fb y).getLsbD c = (selectNibble y ++ rowOf fb y : BitVec (4 + 4)).getLsbD c := rfl
  rw [h, BitVec.getLsbD_append, if_pos hc, rowOf_bit _ _ _ hc]

/-- The high nibble of a drive word is the select nibble (R216). -/
theorem driveWord_select (fb : Frame) (y : BitVec 2) (i : Nat) :
    (driveWord fb y).getLsbD (4 + i) = (selectNibble y).getLsbD i := by
  have h : (driveWord fb y).getLsbD (4 + i) = (selectNibble y ++ rowOf fb y : BitVec (4 + 4)).getLsbD (4 + i) := rfl
  rw [h, BitVec.getLsbD_append, if_neg (by omega), Nat.add_sub_cancel_left]

/-- Row `y` of the transform is the stored row `(y + ys) mod 4`, rotated (R153). -/
theorem rowOf_xform (src : Frame) (xs ys y : BitVec 2) : rowOf (xform src xs ys) y = rotl4 (rowOf src (y + ys)) xs := by
  simp [xform, rowOf_assembleRows, rowsel]

/-- Rotations of a row compose (R150). -/
theorem rotl4_rotl4 (row : Nibble) (a b : BitVec 2) : rotl4 (rotl4 row a) b = rotl4 row (a + b) := by
  revert row a b; decide

end Sys2Proof.Machine
end

