-- ==== Sys2Proof/Laws/PerInstr.lean ====
section
/-! SUPPORT. Statements made per operation. `WordReadsBack`: the word of an operation decodes to it, at the level of legality too. -/

namespace Sys2Proof.Laws.WordReadsBack

/-- The word of `i` is legal (R99) and decodes to `i` (R95). -/
def Statement (i : Instr) : Prop := legalWord (encode i) = true ∧ decode (encode i) = .ok i

theorem scanRow (y : BitVec 2) : Statement (.scanRow y) := by unfold Statement; revert y; decide
theorem debDec : Statement .debDec := by unfold Statement; decide
theorem sched : Statement .sched := by unfold Statement; decide
theorem waitDec : Statement .waitDec := by unfold Statement; decide
theorem render : Statement .render := by unfold Statement; decide
theorem advance : Statement .advance := by unfold Statement; decide
theorem hookNone : Statement .hookNone := by unfold Statement; decide
theorem hookHShift : Statement .hookHShift := by unfold Statement; decide
theorem hookVShift : Statement .hookVShift := by unfold Statement; decide
theorem hookStar : Statement .hookStar := by unfold Statement; decide
theorem reload : Statement .reload := by unfold Statement; decide
theorem lfsrStep : Statement .lfsrStep := by unfold Statement; decide
theorem lfsrDraw : Statement .lfsrDraw := by unfold Statement; decide
theorem edge (l : Bool) : Statement (.edge l) := by cases l <;> (unfold Statement; decide)
theorem switch : Statement .switch := by unfold Statement; decide
theorem reset : Statement .reset := by unfold Statement; decide

end Sys2Proof.Laws.WordReadsBack
end

