-- ==== Sys2Proof/Laws/Run.lean ====
section
/-! SUPPORT. What the main sequencer's own steps do where no word is placed: one pass, one iteration, said once. -/

namespace Sys2Proof.Machine

theorem step_nil_at {s : State} {k : Fin 6} (hi : s.input = []) (hs : s.seq = k) :
    step s = .next (effect (sequencerOp k) s) := by
  rw [step_nil hi, hs]

/-- The four drive words of one Framebuffer (R220). -/
def passWords (fb : Frame) : List Byte := [driveWord fb 0, driveWord fb 1, driveWord fb 2, driveWord fb 3]

/-- The state after a refresh pass. -/
def afterPass (s : State) : State := setSeq 4 { s with out := s.out ++ passWords s.fb }

/-- The state after an iteration's first five steps. -/
def beforeSched (s : State) : State := setSeq 5 (countLockout (afterPass s))

/-- The state after one iteration (R232). -/
def afterIter (s : State) : State := setSeq 0 (schedule (beforeSched s))

/-- A select nibble and a row make the byte R220 writes. -/
theorem append_nibbles (hi lo : Nibble) : (hi ++ lo : BitVec (4 + 4)) = (hi ++ 0#4 : BitVec (4 + 4)) ||| lo.setWidth (4 + 4) := by
  revert hi lo; decide

theorem passWords_eq (fb : Frame) : passWords fb =
    [0xE0#8 ||| (fb.extractLsb' 0 4).setWidth 8, 0xD0#8 ||| (fb.extractLsb' 4 4).setWidth 8,
     0xB0#8 ||| (fb.extractLsb' 8 4).setWidth 8, 0x70#8 ||| (fb.extractLsb' 12 4).setWidth 8] := by
  have h : ∀ y : BitVec 2, driveWord fb y = (selectNibble y ++ 0#4 : BitVec (4 + 4)) ||| (rowOf fb y).setWidth (4 + 4) :=
    fun y => append_nibbles _ _
  simp only [passWords, h]
  rfl

theorem run_one {s t : State} (h : step s = .next t) : run 1 s = .next t := run_succ_of_next h

/-- The effects of the four rows in a row. -/
theorem four_rows (s : State) :
    effect (.scanRow 3) (effect (.scanRow 2) (effect (.scanRow 1) (effect (.scanRow 0) s))) = afterPass s := by
  simp [effect, afterPass, setSeq, driveRow, send, passWords, phaseAfterRow]

/-- A refresh pass with no word placed (R220). -/
theorem run_pass {s : State} (hi : s.input = []) (hs : s.seq = 0) : run 4 s = .next (afterPass s) := by
  rw [run_succ_of_next (step_nil_at hi hs)]
  rw [run_succ_of_next (step_nil_at (k := 1) (by simpa [sequencerOp, effect] using hi) rfl)]
  rw [run_succ_of_next (step_nil_at (k := 2) (by simpa [sequencerOp, effect] using hi) rfl)]
  rw [run_succ_of_next (step_nil_at (k := 3) (by simpa [sequencerOp, effect] using hi) rfl)]
  exact congrArg Host.Outcome.next (four_rows s)

/-- One iteration with no word placed (R232). -/
theorem run_iter {s : State} (hi : s.input = []) (hs : s.seq = 0) : run 6 s = .next (afterIter s) := by
  rw [show 6 = 4 + 2 from rfl, run_add (run_pass hi hs)]
  rw [run_succ_of_next (step_nil_at (k := 4) (by simpa [afterPass] using hi) rfl)]
  exact run_one (step_nil_at (k := 5) (by simpa [afterPass, sequencerOp, effect] using hi) rfl)

theorem afterIter_input (s : State) : (afterIter s).input = s.input := by simp [afterIter, beforeSched, afterPass]

theorem afterIter_seq (s : State) : (afterIter s).seq = 0 := rfl

theorem afterIter_debounceCountdown (s : State) :
    (afterIter s).debounceCountdown.toNat = s.debounceCountdown.toNat - 1 := by
  simp only [afterIter, beforeSched, setSeq_debounceCountdown, schedule_debounceCountdown, countLockout_toNat]
  rfl

end Sys2Proof.Machine
end

