-- ==== Sys2Proof/Tests/Slice0.lean ====
section
/-! SUPPORT. Tests of the model. Every expected value comes from the spec, from `95_test_vectors.md` unless a comment names another
file. The last part holds the witnesses: for each statement with hypotheses, a state and operands that meet them together. -/

namespace Sys2Proof.Tests

open Sys2Proof.Machine

/-! ## Helpers -/

/-- The example table `EXT` (95, 3.1). -/
def ext : List Descriptor :=
  [⟨1, true, 255, .none, [0x9669]⟩, ⟨4, true, 70, .horizontalShift, [0x8421]⟩, ⟨4, true, 3, .verticalShift, [0x0137]⟩]
  ++ [⟨0, false, 1, .starfield, []⟩, ⟨2, false, 2, .none, [0xFFFF, 0x0000]⟩, ⟨3, false, 0, .none, [0x0001, 0x0010, 0x0100]⟩]
  ++ [⟨8, true, 0, .horizontalShift, [0x1111]⟩]

def extTable : ProgramTable := ⟨ext.toArray, rfl⟩

/-- `S0(1)` over `EXT` (95, 0), with program `p` selected. -/
def start (p : Fin 7) : State where
  fb := 0
  lfsr := 0xCAFE
  starPhase := 0
  programIndex := p
  frameIndex := 0
  waitRemaining := 0
  xShift := 0
  yShift := 0
  prevRawLevel := true
  debounceCountdown := 0
  seq := 0
  out := []
  table := extTable
  rawLevelReset := true
  lfsrOverrides := []
  input := []
  freeDraws := 0

/-- `start p` with words placed. -/
def given (ws : List TraceWord) : State := { start 0 with input := ws }

/-- The outcome is a next state with property `p`. -/
def gives (o : Outcome) (p : State → Bool) : Bool :=
  match o with
  | .next t => p t
  | _ => false

/-- The outcome is the refusal `r`. -/
def refuses (o : Outcome) (r : Refusal) : Bool :=
  match o with
  | .refused q => q == r
  | _ => false

/-! ## Well-formedness: each check refuses an ill-formed input -/

/-- R99: a reserved opcode; a reserved operand bit in each format. -/
theorem test_wf_reserved_words :
    [0x00#8, 0x0F, 0xD0, 0xE5, 0x14, 0x18, 0x21, 0x74, 0xB2, 0xC1, 0xF1, 0xFF].all (fun w => !legalWord w) = true := by decide

/-- R99: 20 legal words. -/
theorem test_wf_twenty_words : ((List.range 256).filter fun w => legalWord (BitVec.ofNat 8 w)).length = 20 := by decide +kernel

/-- R94: RENDER's word is well formed as a unit test and not as a step of a trace. -/
theorem test_wf_micro_word : TraceWord.wf ⟨.unitTest, 0x50⟩ = true ∧ TraceWord.wf ⟨.top, 0x50⟩ = false ∧
    TraceWord.wf ⟨.top, 0xB1⟩ = true ∧ TraceWord.wf ⟨.unitTest, 0x00⟩ = false := by decide

/-- R64 (b): a virtual program with two frames, a program with fewer frames than its count. -/
theorem test_wf_descriptor : Descriptor.wf ⟨2, true, 0, .none, [1, 2]⟩ = false ∧ Descriptor.wf ⟨2, false, 0, .none, [1]⟩ = false ∧
    Descriptor.wf ⟨0, true, 0, .none, [0xFFFF]⟩ = true := by decide

/-- R64 (a): six descriptors, eight descriptors; one ill-formed descriptor; `EXT` itself. -/
theorem test_wf_table : tableWf (ext.drop 1) = false ∧ tableWf (ext ++ ext.take 1) = false ∧
    tableWf (ext.drop 1 ++ [⟨1, false, 0, .none, []⟩]) = false ∧ tableWf ext = true := by decide

/-! ## Decoding: words written out bit by bit from R91 and R93 -/

theorem test_decode_scanrow : decode 0b00010000#8 = .ok (.scanRow 0) ∧ decode 0b00010010#8 = .ok (.scanRow 2) ∧
    decode 0b00010011#8 = .ok (.scanRow 3) := by decide
theorem test_decode_sequencer : decode 0b00100000#8 = .ok .debDec ∧ decode 0b00110000#8 = .ok .sched := by decide
theorem test_decode_schedule : decode 0b01000000#8 = .ok .waitDec ∧ decode 0b01010000#8 = .ok .render ∧
    decode 0b01100000#8 = .ok .advance ∧ decode 0b10000000#8 = .ok .reload ∧ decode 0b11000000#8 = .ok .switch := by decide
theorem test_decode_hooks : decode 0b01110000#8 = .ok .hookNone ∧ decode 0b01110001#8 = .ok .hookHShift ∧
    decode 0b01110010#8 = .ok .hookVShift ∧ decode 0b01110011#8 = .ok .hookStar := by decide
theorem test_decode_lfsr : decode 0b10010000#8 = .ok .lfsrStep ∧ decode 0b10100000#8 = .ok .lfsrDraw := by decide
theorem test_decode_events : decode 0b10110000#8 = .ok (.edge false) ∧ decode 0b10110001#8 = .ok (.edge true) ∧
    decode 0b11110000#8 = .ok .reset := by decide
theorem test_decode_illegal : decode 0b00000000#8 = .illegal .reservedOpcode ∧ decode 0b00010100#8 = .illegal .reservedOperandBits ∧
    decode 0b10110010#8 = .illegal .reservedOperandBits := by decide

/-! ## One step of each operation -/

/-- 2.6: `FB = 9669`, row 0 sends E9; `FB = 1234`, row 3 sends 71. -/
theorem test_scanrow_low : gives (exec (.scanRow 0) { start 0 with fb := 0x9669 }) (fun t => t.out == [0xE9] && t.seq == 1) = true := by
  decide
theorem test_scanrow_high :
    gives (exec (.scanRow 3) { start 0 with fb := 0x1234, seq := 3 }) (fun t => t.out == [0x71] && t.seq == 4) = true := by decide

/-- 2.5: `DBC 30 -> 29`, `DBC 0 -> 0`. -/
theorem test_debdec : gives (exec .debDec { start 0 with debounceCountdown := 30, seq := 4 })
    (fun t => t.debounceCountdown == 29 && t.seq == 5) = true := by decide
theorem test_debdec_stops :
    gives (exec .debDec { start 0 with seq := 4 }) (fun t => t.debounceCountdown == 0 && t.seq == 5) = true := by decide

/-- 2.4: the fire of program 1 at `FI 3, XS 3`, which wraps; the wait branch from 1, which does not fire. -/
theorem test_sched_fire : gives (exec .sched { start 1 with frameIndex := 3, xShift := 3, seq := 5 })
    (fun t => t.fb == 0x4218 && t.frameIndex == 0 && t.xShift == 0 && t.waitRemaining == 70 && t.seq == 0) = true := by decide
theorem test_sched_wait : gives (exec .sched { start 1 with waitRemaining := 1, seq := 5 })
    (fun t => t.waitRemaining == 0 && t.frameIndex == 0 && t.fb == 0) = true := by decide

/-- 2.4: `WR 255` stays, `WR 254 -> 253`. -/
theorem test_waitdec_sentinel :
    gives (exec .waitDec { start 0 with waitRemaining := 255 }) (fun t => t.waitRemaining == 255) = true := by decide
theorem test_waitdec : gives (exec .waitDec { start 0 with waitRemaining := 254 }) (fun t => t.waitRemaining == 253) = true := by decide

/-- 2.3: the virtual program at `FI 2, XS 1`; the fourth row, frame 1 of three shifted by 1 and 1. -/
theorem test_render_virtual :
    gives (exec .render { start 1 with frameIndex := 2, xShift := 1 }) (fun t => t.fb == 0x1842) = true := by decide
theorem test_render_stored : gives (exec .render { start 5 with frameIndex := 1, xShift := 1, yShift := 1 })
    (fun t => t.fb == 0x0002) = true := by decide

/-- 2.4: `(4, 3) -> 0`; a zero frame count gives 0. -/
theorem test_advance_wraps : gives (exec .advance { start 1 with frameIndex := 3 }) (fun t => t.frameIndex == 0) = true := by decide
theorem test_advance_zero_count : gives (exec .advance { start 3 with frameIndex := 2 }) (fun t => t.frameIndex == 0) = true := by decide

/-- R182. -/
theorem test_hook_none : gives (exec .hookNone { start 0 with frameIndex := 3 }) (fun t => t.xShift == 0 && t.yShift == 0) = true := by
  decide

/-- 2.4: `FI 126 -> 2`; the other shift is unchanged. -/
theorem test_hook_hshift : gives (exec .hookHShift { start 6 with frameIndex := 126, yShift := 1 })
    (fun t => t.xShift == 2 && t.yShift == 1) = true := by decide
theorem test_hook_vshift : gives (exec .hookVShift { start 2 with frameIndex := 7, xShift := 1 })
    (fun t => t.yShift == 3 && t.xShift == 1) = true := by decide

/-- 2.2: phase 0 from `CAFE`; phase 4 wraps and keeps `FB`. -/
theorem test_hook_star_flash : gives (exec .hookStar { start 3 with fb := 0x1234 })
    (fun t => t.fb == 0x8000 && t.lfsr == 0xCFAF && t.starPhase == 1) = true := by decide
theorem test_hook_star_wrap : gives (exec .hookStar { start 3 with fb := 0xABCD, lfsr := 0xCFAF, starPhase := 4 })
    (fun t => t.fb == 0xABCD && t.lfsr == 0xCFAF && t.starPhase == 0) = true := by decide

/-- 2.4: `frameDelay` 70 and 255. -/
theorem test_reload : gives (exec .reload (start 1)) (fun t => t.waitRemaining == 70) = true := by decide
theorem test_reload_sentinel : gives (exec .reload (start 0)) (fun t => t.waitRemaining == 255) = true := by decide

/-- 2.2: `657F -> 86BF`, `0002 -> 0001`. -/
theorem test_lfsrstep_odd : gives (exec .lfsrStep { start 0 with lfsr := 0x657F }) (fun t => t.lfsr == 0x86BF) = true := by decide
theorem test_lfsrstep_even : gives (exec .lfsrStep { start 0 with lfsr := 0x0002 }) (fun t => t.lfsr == 0x0001) = true := by decide

/-- 2.2: the sixth draw yields position 0, the seventh position 4. -/
theorem test_lfsrdraw_zero :
    gives (exec .lfsrDraw { start 0 with lfsr := 0xA40C }) (fun t => t.lfsr == 0xE440 && drawnPosition t == 0) = true := by decide
theorem test_lfsrdraw :
    gives (exec .lfsrDraw { start 0 with lfsr := 0xE440 }) (fun t => t.lfsr == 0x0E44 && drawnPosition t == 4) = true := by decide

/-- 2.5: a press; an edge inside the lockout, which leaves the remembered level. -/
theorem test_edge_press : gives (exec (.edge false) { start 2 with waitRemaining := 9, frameIndex := 1, yShift := 1 })
    (fun t => t.programIndex == 3 && t.waitRemaining == 0 && t.yShift == 0 && t.debounceCountdown == 30 && !t.prevRawLevel) = true := by
  decide
theorem test_edge_dropped : gives (exec (.edge true) { start 2 with debounceCountdown := 30, prevRawLevel := false })
    (fun t => t.programIndex == 2 && t.debounceCountdown == 30 && !t.prevRawLevel) = true := by decide

/-- 2.4: index 6 goes to 0, with the schedule cleared. -/
theorem test_switch : gives (exec .switch { start 6 with waitRemaining := 17, frameIndex := 5, xShift := 1 })
    (fun t => t.programIndex == 0 && t.waitRemaining == 0 && t.frameIndex == 0 && t.xShift == 0) = true := by decide

/-- 2.7: RESET in the middle of a run; `OUT` is kept. -/
theorem test_reset : gives (exec .reset { start 5 with
      fb := 0x0100, lfsr := 0x9497, starPhase := 3, frameIndex := 2, waitRemaining := 17, xShift := 1, prevRawLevel := false,
      debounceCountdown := 12, seq := 3, out := [0xE0] })
    (fun t => t == { start 0 with out := [0xE0] }) = true := by decide

/-! ## Steps of a trace -/

/-- 2.1: what a word does as a step of a trace where `SEQ = 0` and where `SEQ = 4`. -/
theorem test_step_refusals :
    refuses (step (given [⟨.top, 0x14⟩])) .illegalOperationWord = true ∧ refuses (step (given [⟨.top, 0x50⟩])) .microOpAtTopLevel = true ∧
    refuses (step (given [⟨.top, 0x13⟩])) .outOfSequence = true ∧
    refuses (step { given [⟨.top, 0x10⟩] with seq := 4 }) .outOfSequence = true := by decide
/-- R252: the codes. -/
theorem test_refusal_codes : Refusal.code .illegalOperationWord = some 1 ∧ Refusal.code .microOpAtTopLevel = some 2 ∧
    Refusal.code .outOfSequence = some 3 ∧ Refusal.code .malformedTable = some 4 := by decide
theorem test_step_taken : gives (step (given [⟨.top, 0x10⟩, ⟨.top, 0x11⟩])) (fun t => t.seq == 1 && t.input == [⟨.top, 0x11⟩]) = true ∧
    gives (step { given [⟨.top, 0x20⟩] with seq := 4 }) (fun t => t.seq == 5) = true ∧
    gives (step { given [⟨.top, 0xB0⟩] with seq := 4 }) (fun t => t.programIndex == 1 && t.seq == 4) = true := by decide

/-- `withFetchWord` places a sequencer word in its own phase and a micro-operation at the level of unit tests (log 24). -/
theorem test_with_fetch_word : gives (step ((start 1).withFetchWord 8 0x30)) (fun t => t.fb == 0x8421) = true ∧
    gives (step ((start 1).withFetchWord 8 0x80)) (fun t => t.waitRemaining == 70) = true := by decide

/-- R107: a comment, a repeat, an operand out of range. -/
theorem test_trace_text : parseLine "SCANROW 2 ; row two" = some [.scanRow 2] ∧
    parseLine "PRESS * 2" = some [.edge false, .edge false] ∧ parseLine "SCANROW 4" = none ∧
    parseLine "ITER" = some [.scanRow 0, .scanRow 1, .scanRow 2, .scanRow 3, .debDec, .sched] := by decide

/-- 2.1: program 1's descriptor word, and the malformed word `00040001`. -/
theorem test_packed : packDescriptor ⟨4, true, 70, .horizontalShift, [0x8421]⟩ 1 = 0x01014684#32 ∧
    unpackDescriptor [0x9669, 0x8421] 0x01014684#32 = some ⟨4, true, 70, .horizontalShift, [0x8421]⟩ ∧
    unpackDescriptor [0x9669, 0x8421] 0x00040001#32 = none := by decide

/-- R110: while program 4 stands at frame 1, the table address is 4, 1; a strobe only with a `Send`, so none for a row out of its phase. -/
theorem test_ports : portOutputs (.scanRow 0) { start 4 with frameIndex := 1, fb := 0x9669 } = ⟨⟨4, 1⟩, true, 0xE9⟩ ∧
    (portOutputs .debDec { start 1 with frameIndex := 1 }).address.frameIndex = 0 ∧
    (portOutputs .debDec (start 1)).driveStrobe = false ∧ (portOutputs (.scanRow 2) (start 1)).driveStrobe = false := by decide

/-- R110: what the storage answers at program 5, frame 1; index 7 is no program; a fire of program 5 from what stands on `pt_data`. -/
theorem test_pt_data : ptAnswer extTable ⟨5, 1⟩ = some ⟨3, false, 0, .none, 0x0010⟩ ∧ ptAnswer extTable ⟨7, 0⟩ = none ∧
    gives (portStep ⟨false, none, ⟨3, false, 0, .none, 0x0010⟩⟩ { start 5 with frameIndex := 1, seq := 5 }).2
      (fun t => t.fb == 0x0010 && t.frameIndex == 2) = true := by decide

/-! ## Witnesses: a state and operands that meet the hypotheses of a statement together -/

/-- DecodeAndEncodeAgree. -/
theorem test_witness_decode : decode 0xB1 = .ok (.edge true) ∧ encode (.edge true) = 0xB1 := by decide

/-- OpcodeRowsAgreeWithDecoder, at both sides of EDGE's mask. -/
theorem test_witness_opcode_row : (⟨"EDGE", 0xB0, 0xFE⟩ : OpcodeRow) ∈ opcodeRows ∧
    OpcodeRow.applies ⟨"EDGE", 0xB0, 0xFE⟩ 0xB1 = true ∧ OpcodeRow.applies ⟨"EDGE", 0xB0, 0xFE⟩ 0xB2 = false := by decide

/-- IllegalWordsAreRefused: every clause at the ends of its range, and the legal words beside them. -/
theorem test_witness_illegal : (given [⟨.top, 0x14⟩]).input = [⟨.top, 0x14⟩] ∧ (given [⟨.unitTest, 0xFF⟩]).input = [⟨.unitTest, 0xFF⟩] ∧
    [0x00#8, 0x0F, 0xD0, 0xDF, 0xE0, 0xEF, 0x14, 0x1F, 0x74, 0x7F, 0xB2, 0xBF, 0x21, 0x2F, 0xFF].all (fun w => !legalWord w) = true ∧
    [0x10#8, 0x13, 0x70, 0x73, 0xB0, 0xB1, 0x20, 0xF0].all legalWord = true := by decide

/-- StepRunsDecodedOperation: a step of a trace, a micro-operation as a unit test, and no word placed. -/
theorem test_witness_step : (given [⟨.top, 0x10⟩]).input = [⟨.top, 0x10⟩] ∧ decode 0x10 = .ok (.scanRow 0) ∧ opClass (.scanRow 0) ≠ .M ∧
    (given [⟨.unitTest, 0x50⟩]).input = [⟨.unitTest, 0x50⟩] ∧ decode 0x50 = .ok .render := by decide
theorem test_witness_step_no_word : (start 0).input = [] ∧ (start 0).seq = 0 ∧
    ({ start 0 with seq := 5 } : State).input = [] ∧ ({ start 0 with seq := 5 } : State).seq = 5 := by decide

/-- MicroOperationsRefusedAtTopLevel: the first and the last of its words. -/
theorem test_witness_micro : (given [⟨.top, 0x40⟩]).input = [⟨.top, 0x40⟩] ∧ (given [⟨.top, 0xC0⟩]).input = [⟨.top, 0xC0⟩] ∧
    (0x40#8) ∈ [0x40#8, 0x50, 0x60, 0x70, 0x71, 0x72, 0x73, 0x80, 0x90, 0xA0, 0xC0] := by decide

/-- OneSequencerWordPerPhase: the word of the phase at both ends, another word, an external event. -/
theorem test_witness_phase : [0x10#8, 0x11, 0x12, 0x13, 0x20, 0x30][0]? = some 0x10 ∧ 0 = (given [⟨.top, 0x10⟩]).seq.val ∧
    [0x10#8, 0x11, 0x12, 0x13, 0x20, 0x30][5]? = some 0x30 ∧ 5 = ({ given [⟨.top, 0x30⟩] with seq := 5 } : State).seq.val ∧
    5 ≠ (given [⟨.top, 0x30⟩]).seq.val ∧ (0xF0#8) ∈ [0xB0#8, 0xB1, 0xF0] := by decide

/-- ScanRowSendsOneDriveWord and PassShowsOnePicture: rows 0 and 3 in their phases, row 3 in another. -/
theorem test_witness_scanrow : (start 0).seq.val = (0 : BitVec 2).toNat ∧
    ({ start 0 with seq := 3 } : State).seq.val = (3 : BitVec 2).toNat ∧ (start 0).seq.val ≠ (3 : BitVec 2).toNat ∧ (start 0).seq = 0 := by
  decide

/-- OnlyScanRowSends, ProgramTableNeverChanges, and the second clause of ContextsTouchOnlyTheirRegisters: a sequencer step that answers
a next state. -/
theorem test_witness_next : opClass .debDec = .S ∧
    ∃ t, exec .debDec { start 0 with seq := 4 } = .next t ∧ step { start 0 with seq := 4 } = .next t := ⟨rfl, _, rfl, rfl⟩

/-- RenderOfMissingFrameLeavesFreeValue: a program without frames, and a cursor one past the last frame. -/
theorem test_witness_render_missing :
    (extTable[(3 : Fin 7)]).frames[if (extTable[(3 : Fin 7)]).isVirtual then 0 else 0]? = none ∧
    (extTable[(5 : Fin 7)]).frames[if (extTable[(5 : Fin 7)]).isVirtual then 0 else 3]? = none := by decide

/-- RenderTransformsSourceFrame: a virtual program at its last frame number; a stored frame at the last; unshifted. -/
theorem test_witness_render : ((extTable[(1 : Fin 7)]).frames[if (extTable[(1 : Fin 7)]).isVirtual then 0 else 3]? = some 0x8421) ∧
    ((extTable[(5 : Fin 7)]).frames[if (extTable[(5 : Fin 7)]).isVirtual then 0 else 2]? = some 0x0100) ∧
    (start 5).xShift = 0 ∧ (start 5).yShift = 0 := by decide

/-- StarHookByPhase and StarCycleOfFive: phases 0, 1, 2 and 4. -/
theorem test_witness_star : (start 3).starPhase = 0 ∧ ({ start 3 with starPhase := 1 } : State).starPhase = 1 ∧
    (∀ p : Fin 5, p = 2 ∨ p = 4 → ({ start 3 with starPhase := p } : State).starPhase ≠ 0 ∧
      ({ start 3 with starPhase := p } : State).starPhase ≠ 1) := by decide

/-- LfsrStepIsGaloisRight: no other successor listed, and one listed, which LFSRSTEP then takes. -/
theorem test_witness_overrides : (start 3).lfsrOverrides.lookup (start 3).lfsr = none ∧
    ({ start 3 with lfsrOverrides := [(0xCAFE, 0x0001)] } : State).lfsrOverrides.lookup 0xCAFE = some 0x0001 ∧
    gives (exec .lfsrStep { start 3 with lfsrOverrides := [(0xCAFE, 0x0001)] }) (fun t => t.lfsr == 0x0001) = true := by decide

/-- AnyStepFunctionCanBeChosen: a Starfield program about to fire in phase 0. -/
theorem test_witness_choose_step : ({ start 3 with seq := 5 } : State).seq = 5 ∧ (start 3).waitRemaining = 0 ∧
    ((start 3).table[(start 3).programIndex]).updateHook = .starfield ∧ (start 3).starPhase = 0 := by decide

/-- AnyAdmissibleStepKeepsLfsrNonzero: the default step function, a non-zero register, and an operation that steps it. -/
theorem test_witness_admissible_step : AdmissibleStep (start 3).lfsrOverrides ∧ (start 3).lfsr ≠ 0 ∧
    ∃ t, exec .hookStar (start 3) = .next t := ⟨admissibleStep_nil, by decide, ⟨_, rfl⟩⟩

/-- LfsrAndPhaseChangeOnlyInStarfield: a fire of another program, a wait of a Starfield program, a switch. -/
theorem test_witness_frozen : (∃ t, exec .sched { start 1 with seq := 5 } = .next t) ∧
    (start 1).table[(start 1).programIndex].updateHook ≠ .starfield ∧ opClass .sched ≠ .M ∧
    (∃ t, exec .sched { start 3 with seq := 5, waitRemaining := 1 } = .next t) ∧ (∃ t, exec .switch (start 3) = .next t) :=
  ⟨⟨_, rfl⟩, by decide, by decide, ⟨_, rfl⟩, ⟨_, rfl⟩⟩

/-- WaitDecCountsDownButSentinel, WaitDecAtZeroLeavesFreeValue: 1, 254, 255; 0. -/
theorem test_witness_waitdec : (∀ w ∈ [1#8, 254, 255], ({ start 0 with waitRemaining := w } : State).waitRemaining ≠ 0) ∧
    (start 0).waitRemaining = 0 := by decide

/-- SchedCountsDownOrFires and FireResultByRegister: the wait branch at 1 and 255, the fire branch with and without frames, another
phase. -/
theorem test_witness_sched : (∀ w ∈ [1#8, 255], ({ start 1 with seq := 5, waitRemaining := w } : State).waitRemaining ≠ 0) ∧
    ({ start 1 with seq := 5 } : State).seq = 5 ∧ ({ start 1 with seq := 5 } : State).waitRemaining = 0 ∧
    (extTable[(1 : Fin 7)]).frameCount ≠ 0 ∧ (extTable[(1 : Fin 7)]).updateHook ≠ .starfield ∧
    (extTable[(3 : Fin 7)]).frameCount = 0 ∧ (start 1).seq ≠ 5 := by decide

/-- StarfieldFireByPhase: a Starfield program without frames, and one with a frame (95, 2.2). -/
theorem test_witness_starfield_fire : ({ start 3 with seq := 5 } : State).seq = 5 ∧ (extTable[(3 : Fin 7)]).updateHook = .starfield ∧
    (extTable[(3 : Fin 7)]).frameCount = 0 ∧
    (let d : Descriptor := ⟨1, true, 0, .starfield, [0x00F0]⟩
     gives (exec .sched { start 3 with table := extTable.set 3 d, starPhase := 2, fb := 0x0000, seq := 5 })
      (fun t => t.fb == 0x00F0 && t.starPhase == 3 && t.lfsr == 0xCAFE) = true) := by decide

/-- FirstPressRestsOnParameter: both values of the parameter. -/
theorem test_witness_first_press : (∃ t, exec .reset (start 4) = .next t ∧ t.rawLevelReset = true) ∧
    (∃ t, exec .reset { start 4 with rawLevelReset := false } = .next t ∧ t.rawLevelReset = false) := ⟨⟨_, rfl, rfl⟩, ⟨_, rfl, rfl⟩⟩

/-- EdgeHandlesPressOrDrops: the ends of a lockout, a press, each way of no press. -/
theorem test_witness_edge : (∀ d ∈ [1#8, 30], ({ start 2 with debounceCountdown := d } : State).debounceCountdown ≠ 0) ∧
    (start 2).debounceCountdown = 0 ∧ (start 2).prevRawLevel = true ∧ ¬((start 2).prevRawLevel = true ∧ true = false) ∧
    ¬(({ start 2 with prevRawLevel := false } : State).prevRawLevel = true ∧ false = false) := by decide

/-- DebDecCountsLockoutDown: its phase, another phase. -/
theorem test_witness_debdec : ({ start 2 with seq := 4 } : State).seq = 4 ∧ ({ start 2 with seq := 5 } : State).seq ≠ 4 := by decide

/-- LockoutLastsThirtyIterations: no DEBDEC yet, the 29th and the 30th of an accepting edge before DEBDEC and of one after it, a low level
remembered. -/
theorem test_witness_lockout : ({ start 0 with debounceCountdown := 30, prevRawLevel := false } : State).input = [] ∧
    ({ start 0 with debounceCountdown := 30, prevRawLevel := false } : State).debounceCountdown = 30 ∧
    ({ start 0 with debounceCountdown := 30, prevRawLevel := false } : State).prevRawLevel = false ∧
    ((List.range 4).filter fun j => (0 + j) % 6 = 4).length = 0 ∧ ((List.range 178).filter fun j => (0 + j) % 6 = 4).length = 29 ∧
    ((List.range 179).filter fun j => (0 + j) % 6 = 4).length = 30 ∧ ((List.range 179).filter fun j => (5 + j) % 6 = 4).length = 29 ∧
    ((List.range 180).filter fun j => (5 + j) % 6 = 4).length = 30 := by decide

/-- IterationAsOneFunction; SentinelFreezesForEver; WaitLastsItsCount at `k = 0` and `k = w`, for waits of 0 and 254;
FiresAreDelayPlusOneApart at `k = 0` and `k = d`, for a delay of 70. -/
theorem test_witness_iterations : (start 1).input = [] ∧ (start 1).seq = 0 ∧
    ({ start 0 with waitRemaining := 255 } : State).waitRemaining = 255 ∧
    (∀ w ∈ [0#8, 254], ({ start 0 with waitRemaining := w } : State).waitRemaining.toNat ≠ 255 ∧ 0 ≤ w.toNat) ∧
    (start 1).waitRemaining = 0 ∧ (extTable[(1 : Fin 7)]).frameDelay ≠ 255 ∧ 70 ≤ (extTable[(1 : Fin 7)]).frameDelay.toNat := by
  decide

/-- SwitchedProgramFiresAtOnce: a press that selects a program with frames, and one that selects a program with none. -/
theorem test_witness_switched : (start 0).debounceCountdown = 0 ∧ (start 0).prevRawLevel = true ∧ (start 0).input = [] ∧
    (∃ t, exec (.edge false) (start 0) = .next t) ∧ (∃ t, exec (.edge false) (start 2) = .next t) ∧
    (extTable[(1 : Fin 7)]).updateHook ≠ .starfield ∧ (extTable[(1 : Fin 7)]).frameCount ≠ 0 ∧
    (extTable[(1 : Fin 7)]).frames[0]? = some 0x8421 :=
  ⟨by decide, by decide, by decide, ⟨_, rfl⟩, ⟨_, rfl⟩, by decide, by decide, by decide⟩

/-- A program with a frame count of 0 and a hook other than Starfield, in the last clauses of FireResultByRegister and
SwitchedProgramFiresAtOnce (95, 2.4). -/
theorem test_witness_no_frames :
    let d : Descriptor := ⟨0, false, 5, .horizontalShift, []⟩
    d.wf = true ∧ d.updateHook ≠ .starfield ∧ d.frameCount = 0 ∧
    gives (exec .sched { start 1 with table := extTable.set 1 d, fb := 0x5555, seq := 5 })
      (fun t => t.fb == 0x5555 && t.waitRemaining == 5 && t.frameIndex == 0) = true := by decide

/-- StepKeepsRegisterInvariant and StepKeepsBlockInvariant: a state that meets both invariants and takes a step. -/
theorem test_witness_invariants : RegisterInv (start 1) ∧ BlockInv (start 1) ∧ ∃ t, step (start 1) = .next t := by
  have h : RegisterInv (start 1) := ⟨by decide, ⟨by decide, by decide⟩, by decide, admissibleStep_nil, by decide⟩
  exact ⟨h, ⟨h, by simp [TopLevelInput, start], ⟨by decide, by decide⟩, .inr (.inl rfl)⟩, ⟨_, rfl⟩⟩

/-- StepKeepsTraceAdmissible and AdmissibleTracesAreNeverRefused: the trace of P9's first words, with an edge in the middle of a pass and a RESET after it. -/
theorem test_witness_admissible : admissible 0 [⟨.top, 0x10⟩, ⟨.top, 0x11⟩, ⟨.top, 0xB0⟩, ⟨.top, 0x12⟩, ⟨.top, 0xF0⟩, ⟨.top, 0x10⟩] = true ∧
    admissible 0 [⟨.top, 0x11⟩] = false := by decide

/-- EveryAdmittedOperationCompletes: an operation without a phase, one in its phase, one out of it. -/
theorem test_witness_completes : phaseOf .render = none ∧ phaseOf .debDec = some 4 ∧ ({ start 0 with seq := 4 } : State).seq = 4 ∧
    (start 0).seq ≠ 4 := by decide

/-- PortsAddNoBehaviour: `pt_data` with the storage's answer, for a stored frame and for a virtual program; a step that answers a next
state and one that is refused. -/
theorem test_witness_ports : ptAnswer (start 1).table (tableAddress { start 1 with frameIndex := 3 }) =
      some ⟨4, true, 70, .horizontalShift, 0x8421⟩ ∧
    ptAnswer (start 5).table (tableAddress { start 5 with frameIndex := 2 }) = some ⟨3, false, 0, .none, 0x0100⟩ ∧
    gives (step ((start 1).arrive ⟨false, some false, ⟨4, true, 70, .horizontalShift, 0x8421⟩⟩)) (fun t => t.programIndex == 2) = true ∧
    refuses (step ({ start 1 with input := [⟨.top, 0x30⟩] }.arrive ⟨false, none, ⟨4, true, 70, .horizontalShift, 0x8421⟩⟩))
      .outOfSequence = true := by decide

/-- SupplyTableChecksWellFormedness: `EXT`, and `EXT` without its first program. -/
theorem test_witness_supply : (ext.length = 7 ∧ ∀ d ∈ ext, d.frames.length = if d.isVirtual then 1 else d.frameCount.toNat) ∧
    ¬((ext.drop 1).length = 7) ∧ gives (supplyTable ext (start 0)) (fun t => t.table == extTable) = true ∧
    refuses (supplyTable (ext.drop 1) (start 0)) .malformedTable = true := by decide

/-- PackedDescriptorsUnpack: a virtual descriptor at the last index of the store and one with no frame after it; the ends of the reserved
field; a base one too high. -/
theorem test_witness_packed : Descriptor.wf ⟨4, true, 70, .horizontalShift, [0x8421]⟩ = true ∧ (255#8).toNat + 1 ≤ 256 ∧
    (List.replicate 256 (0x8421 : Frame))[255 + 0]? = some 0x8421 ∧
    (0x00040001#32).getLsbD 18 = true ∧ (0x00800001#32).getLsbD 23 = true ∧
    256 < (0xFF000002#32).toNat / 2 ^ 24 + (if (0xFF000002#32).getLsbD 7 then 1 else (0xFF000002#32).toNat % 128) := by decide

end Sys2Proof.Tests
end

section
/-! The two contexts of R37. The interrupt context commutes with any change of the registers only the main sequence touches; the main
sequence commutes with any change of the remembered button level. -/

namespace Sys2Proof.Machine

/-! ## The interrupt context: EDGE -/

/-- `s` with other values in the registers that only the main sequence touches (R37). -/
def setMainRegisters (fb : Frame) (v : LfsrWord) (p : Fin 5) (k : Fin 6) (s : State) : State :=
  { s with fb := fb, lfsr := v, starPhase := p, seq := k }

@[simp] theorem setMainRegisters_prevRawLevel (fb : Frame) (v : LfsrWord) (p : Fin 5) (k : Fin 6) (s : State) :
    (setMainRegisters fb v p k s).prevRawLevel = s.prevRawLevel := rfl
@[simp] theorem setMainRegisters_debounceCountdown (fb : Frame) (v : LfsrWord) (p : Fin 5) (k : Fin 6) (s : State) :
    (setMainRegisters fb v p k s).debounceCountdown = s.debounceCountdown := rfl

theorem exec_edge (l : Bool) (s : State) : exec (.edge l) s = .next (handleEdge l s) := rfl

/-- The handler writes at most seven registers (R37). -/
theorem handleEdge_writes (l : Bool) (s : State) :
    handleEdge l s =
      { s with
        programIndex := (handleEdge l s).programIndex
        waitRemaining := (handleEdge l s).waitRemaining
        frameIndex := (handleEdge l s).frameIndex
        xShift := (handleEdge l s).xShift
        yShift := (handleEdge l s).yShift
        prevRawLevel := (handleEdge l s).prevRawLevel
        debounceCountdown := (handleEdge l s).debounceCountdown } := by
  by_cases hopen : s.debounceCountdown = 0
  · rw [handleEdge_open hopen]
    split <;> rfl
  · rw [handleEdge_locked hopen]

/-- The handler reads none of the registers that only the main sequence touches: its two tests are of `debounceCountdown` and
`prevRawLevel`. -/
theorem handleEdge_setMainRegisters (l : Bool) (fb : Frame) (v : LfsrWord) (p : Fin 5) (k : Fin 6) (s : State) :
    handleEdge l (setMainRegisters fb v p k s) = setMainRegisters fb v p k (handleEdge l s) := by
  by_cases hopen : s.debounceCountdown = 0
  · rw [handleEdge_open hopen, handleEdge_open (by simpa using hopen), setMainRegisters_prevRawLevel]
    split <;> rfl
  · rw [handleEdge_locked hopen, handleEdge_locked (by simpa using hopen)]

/-! ## The main sequence: SCANROW, DEBDEC, SCHED -/

theorem opClass_eq_S_iff (i : Instr) : opClass i = .S ↔ (∃ y, i = .scanRow y) ∨ i = .debDec ∨ i = .sched := by
  cases i <;> simp [opClass]

theorem countLockout_rememberLevel (l : Bool) (s : State) :
    countLockout (rememberLevel l s) = rememberLevel l (countLockout s) := by
  unfold countLockout lockedOut
  rw [rememberLevel_debounceCountdown]
  split <;> rfl

theorem countWait_rememberLevel (l : Bool) (s : State) : countWait (rememberLevel l s) = rememberLevel l (countWait s) := by
  unfold countWait
  rw [rememberLevel_waitRemaining]
  split
  · rfl
  · split <;> rfl

theorem renderIfAny_rememberLevel (d : Descriptor) (l : Bool) (s : State) :
    renderIfAny d (rememberLevel l s) = rememberLevel l (renderIfAny d s) := by
  unfold renderIfAny
  split <;> rfl

theorem advanceFrame_rememberLevel (l : Bool) (s : State) :
    advanceFrame (rememberLevel l s) = rememberLevel l (advanceFrame s) := rfl

theorem reloadWait_rememberLevel (l : Bool) (s : State) : reloadWait (rememberLevel l s) = rememberLevel l (reloadWait s) := rfl

theorem starHook_rememberLevel (l : Bool) (s : State) : starHook (rememberLevel l s) = rememberLevel l (starHook s) := by
  unfold starHook starAction
  rw [rememberLevel_starPhase]
  split <;> rfl

theorem runHook_rememberLevel (h : Hook) (l : Bool) (s : State) :
    runHook h (rememberLevel l s) = rememberLevel l (runHook h s) := by
  cases h with
  | none => rfl
  | horizontalShift => rfl
  | verticalShift => rfl
  | starfield => exact starHook_rememberLevel l s

theorem fire_rememberLevel (l : Bool) (s : State) : fire (rememberLevel l s) = rememberLevel l (fire s) := by
  simp only [fire, rememberLevel_selected, renderIfAny_rememberLevel, advanceFrame_rememberLevel, runHook_rememberLevel,
    reloadWait_rememberLevel]

theorem schedule_rememberLevel (l : Bool) (s : State) : schedule (rememberLevel l s) = rememberLevel l (schedule s) := by
  by_cases hw : s.waitRemaining = 0
  · rw [schedule_of_fire hw, schedule_of_fire (by simpa using hw), fire_rememberLevel]
  · rw [schedule_of_wait hw, schedule_of_wait (by simpa using hw), countWait_rememberLevel]

/-- The main sequence does not read `prevRawLevel` (R37). -/
theorem effect_rememberLevel {i : Instr} (hS : opClass i = .S) (l : Bool) (s : State) :
    effect i (rememberLevel l s) = rememberLevel l (effect i s) := by
  obtain ⟨y, rfl⟩ | rfl | rfl := (opClass_eq_S_iff i).1 hS
  · rfl
  · exact congrArg (setSeq 5) (countLockout_rememberLevel l s)
  · exact congrArg (setSeq 0) (schedule_rememberLevel l s)

/-- The main sequence does not write `prevRawLevel` (R37). -/
theorem effect_prevRawLevel {i : Instr} (hS : opClass i = .S) (s : State) : (effect i s).prevRawLevel = s.prevRawLevel := by
  obtain ⟨y, rfl⟩ | rfl | rfl := (opClass_eq_S_iff i).1 hS <;> simp [effect]

/-- Settles O50: the handler commutes with a change of the main sequence's own registers, and a sequencer step with a change of the
remembered level, which is also no part of its admission. -/
theorem contextsTouchOnlyTheirRegisters : Obligations.ContextsTouchOnlyTheirRegisters := by
  unfold Obligations.ContextsTouchOnlyTheirRegisters
  constructor
  · intro l s fb v p k
    refine ⟨handleEdge l s, exec_edge l s, handleEdge_writes l s, ?_⟩
    exact congrArg Host.Outcome.next (handleEdge_setMainRegisters l fb v p k s)
  · intro i s t l hS hexec
    obtain ⟨hphase, rfl⟩ := (exec_next_iff i s t).1 hexec
    exact ⟨effect_prevRawLevel hS s,
      (exec_next_iff i (rememberLevel l s) _).2 ⟨hphase, effect_rememberLevel hS l s⟩⟩

end Sys2Proof.Machine
end

section
/-! The memory rules of `20_memory.md`: what sends (R70), what never changes (R77), what becomes the ProgramTable (R64, R253). -/

namespace Sys2Proof

/-- R64 (b), as an equation. -/
theorem Descriptor.wf_iff (d : Descriptor) :
    d.wf = true ↔ d.frames.length = if d.isVirtual then 1 else d.frameCount.toNat := beq_iff_eq

theorem tableWf_iff (ds : List Descriptor) :
    tableWf ds = true ↔ ds.length = 7 ∧ ∀ d ∈ ds, d.frames.length = if d.isVirtual then 1 else d.frameCount.toNat := by
  simp only [tableWf, Bool.and_eq_true, beq_iff_eq, List.all_eq_true, Descriptor.wf_iff]

theorem ProgramTable.wf_of_tableWf {t : ProgramTable} (h : tableWf t.toList = true) : t.Wf := by
  obtain ⟨-, hwf⟩ := (tableWf_iff _).1 h
  intro i
  exact (Descriptor.wf_iff _).2 (hwf _ (Vector.mem_toList_iff.2 (Vector.getElem_mem i.isLt)))

end Sys2Proof

namespace Sys2Proof.Machine

/-! ## What sends -/

/-- The select nibble's only 0 is bit `y` (R104, R215). -/
theorem selectNibble_bit (y : BitVec 2) {j : Nat} (hj : j < 4) : (selectNibble y).getLsbD j = decide (j ≠ y.toNat) := by
  revert y
  interval_cases j <;> decide

/-- The effect of SCANROW: one drive word on `OUT`, and the next phase (R215). -/
theorem effect_scanRow (y : BitVec 2) (s : State) :
    effect (.scanRow y) s = { s with out := s.out ++ [driveWord s.fb y], seq := phaseAfterRow y } := rfl

/-- Only SCANROW sends (R60, R70). -/
theorem effect_out {i : Instr} (hi : ∀ y, i ≠ .scanRow y) (s : State) : (effect i s).out = s.out := by
  cases i with
  | scanRow y => exact absurd rfl (hi y)
  | _ => simp [effect]

/-- Settles O9: SCANROW by its effect and the bits of its drive word, the other operations by `effect_out`. -/
theorem onlyScanRowSends : Obligations.OnlyScanRowSends := by
  unfold Obligations.OnlyScanRowSends
  intro i s t hexec
  obtain ⟨hphase, rfl⟩ := (exec_next_iff i s t).1 hexec
  by_cases hi : ∃ y, i = .scanRow y
  · obtain ⟨y, rfl⟩ := hi
    have hseq : s.seq = phaseOfRow y := hphase _ rfl
    left
    refine ⟨y, driveWord s.fb y, rfl, congrArg Fin.val hseq, rfl, effect_scanRow y s, ?_, driveWord_data s.fb y⟩
    intro j hj
    rw [driveWord_select, selectNibble_bit y hj]
  · have hother : ∀ y, i ≠ .scanRow y := not_exists.1 hi
    exact .inr ⟨hother, effect_out hother s⟩

/-! ## What never changes -/

@[simp] theorem effect_table (i : Instr) (s : State) : (effect i s).table = s.table := by cases i <;> simp [effect]
@[simp] theorem effect_rawLevelReset (i : Instr) (s : State) : (effect i s).rawLevelReset = s.rawLevelReset := by
  cases i <;> simp [effect]
@[simp] theorem effect_lfsrOverrides (i : Instr) (s : State) : (effect i s).lfsrOverrides = s.lfsrOverrides := by
  cases i <;> simp [effect]

/-- No operation writes a parameter (R34, R77). -/
theorem exec_keeps_parameters {i : Instr} {s t : State} (h : exec i s = .next t) :
    t.table = s.table ∧ t.rawLevelReset = s.rawLevelReset ∧ t.lfsrOverrides = s.lfsrOverrides := by
  obtain ⟨-, rfl⟩ := (exec_next_iff i s t).1 h
  exact ⟨effect_table i s, effect_rawLevelReset i s, effect_lfsrOverrides i s⟩

/-- Settles O49: a step is one operation after a fetch, and a fetch writes only the queue of placed words. -/
theorem programTableNeverChanges : Obligations.ProgramTableNeverChanges := by
  unfold Obligations.ProgramTableNeverChanges
  refine ⟨fun i s t h => exec_keeps_parameters h, fun s t h => ?_⟩
  obtain ⟨i, -, -, hexec⟩ := step_next_cases h
  simpa only [afterFetch_table, afterFetch_rawLevelReset, afterFetch_lfsrOverrides] using exec_keeps_parameters hexec

/-! ## What becomes the ProgramTable -/

theorem supplyTable_of_tableWf {t : ProgramTable} (h : tableWf t.toList = true) (s : State) :
    supplyTable t.toList s = .next { s with table := t } := by
  have hsize : t.toList.toArray.size = 7 := t.size_toArray
  rw [supplyTable, if_pos h, dif_pos hsize]
  rfl

theorem supplyTable_of_not_tableWf {ds : List Descriptor} (h : ¬ tableWf ds = true) (s : State) :
    supplyTable ds s = .refused .malformedTable := if_neg h

/-- Settles O57: the check is R64's condition; a list that meets it is the list of a well-formed table, which is put in place. -/
theorem supplyTableChecksWellFormedness : Obligations.SupplyTableChecksWellFormedness := by
  unfold Obligations.SupplyTableChecksWellFormedness
  intro ds s
  rw [← tableWf_iff]
  refine ⟨fun hwf => ?_, fun hwf => supplyTable_of_not_tableWf hwf s⟩
  obtain ⟨hlength, -⟩ := (tableWf_iff ds).1 hwf
  obtain ⟨t, rfl⟩ : ∃ t : ProgramTable, t.toList = ds := ⟨⟨ds.toArray, hlength⟩, rfl⟩
  exact ⟨t, supplyTable_of_tableWf hwf s, rfl, ProgramTable.wf_of_tableWf hwf⟩

end Sys2Proof.Machine
end

section
/-! The illegal words of `30_encoding.md` R99. The decoder tests exactly the operand bits that the word's format shows as `0`, so it and
`legalWord` agree; R99's own clauses are then read off the mask of each opcode. -/

namespace Sys2Proof

theorem opcodeField_toNat (w : Byte) : (opcodeField w).toNat = w.toNat / 16 := by
  have hw := w.isLt
  simp only [opcodeField, BitVec.extractLsb'_toNat, Nat.shiftRight_eq_div_pow]
  omega

theorem operandField_toNat (w : Byte) : (operandField w).toNat = w.toNat % 16 := by
  simp [operandField]

/-! ## The bits a format shows as 0 (R91) -/

theorem and_maskZ_ne_zero_iff (f : BitVec 4) : f &&& 0b1111#4 ≠ 0 ↔ f.toNat ≠ 0 := by revert f; decide
theorem and_maskYH_ne_zero_iff (f : BitVec 4) : f &&& 0b1100#4 ≠ 0 ↔ 4 ≤ f.toNat := by revert f; decide
theorem and_maskL_ne_zero_iff (f : BitVec 4) : f &&& 0b1110#4 ≠ 0 ↔ 2 ≤ f.toNat := by revert f; decide

/-- A decoder of one format refuses exactly the fields that fail its test. -/
theorem ite_eq_illegal_iff (p : Prop) [Decidable p] (i : Instr) (r : IllegalWord) :
    (∃ why, (if p then Decoded.ok i else .illegal r) = .illegal why) ↔ ¬p := by
  by_cases hp : p <;> simp [hp]

theorem decodeZ_eq_illegal_iff (f : BitVec 4) (i : Instr) :
    (∃ why, decodeZ f i = .illegal why) ↔ f &&& 0b1111#4 ≠ 0 := by
  refine (ite_eq_illegal_iff _ _ _).trans ?_
  revert f; decide

theorem decodeY_eq_illegal_iff (f : BitVec 4) : (∃ why, decodeY f = .illegal why) ↔ f &&& 0b1100#4 ≠ 0 := by
  refine (ite_eq_illegal_iff _ _ _).trans ?_
  revert f; decide

theorem decodeH_eq_illegal_iff (f : BitVec 4) : (∃ why, decodeH f = .illegal why) ↔ f &&& 0b1100#4 ≠ 0 := by
  refine (ite_eq_illegal_iff _ _ _).trans ?_
  revert f; decide

theorem decodeL_eq_illegal_iff (f : BitVec 4) : (∃ why, decodeL f = .illegal why) ↔ f &&& 0b1110#4 ≠ 0 := by
  refine (ite_eq_illegal_iff _ _ _).trans ?_
  revert f; decide

/-! ## The decoder and the check of legality agree -/

/-- R99: a word is illegal where its opcode has no mask, or its operand has a bit of the mask. -/
theorem legalWord_eq_false_iff_mask (w : Byte) :
    legalWord w = false ↔ ∀ m, reservedOperandMask (opcodeField w) = some m → operandField w &&& m ≠ 0 := by
  rw [legalWord, ← opcodeField, ← operandField]
  cases reservedOperandMask (opcodeField w) with
  | none => simp
  | some m => simp

theorem decode_eq_illegal_iff (w : Byte) : (∃ why, decode w = .illegal why) ↔ legalWord w = false := by
  rw [legalWord_eq_false_iff_mask, decode, reservedOperandMask]
  have hop : (opcodeField w).toNat < 16 := (opcodeField w).isLt
  generalize (opcodeField w).toNat = op at hop ⊢
  interval_cases op <;>
    simp [decodeZ_eq_illegal_iff, decodeY_eq_illegal_iff, decodeH_eq_illegal_iff, decodeL_eq_illegal_iff]

/-- R99's clauses, from the mask of each opcode. -/
theorem legalWord_eq_false_iff (w : Byte) :
    legalWord w = false ↔
      (w.toNat / 16 = 0 ∨ w.toNat / 16 = 0xD ∨ w.toNat / 16 = 0xE) ∨
      ((w.toNat / 16 = 1 ∨ w.toNat / 16 = 7) ∧ 4 ≤ w.toNat % 16) ∨
      (w.toNat / 16 = 0xB ∧ 2 ≤ w.toNat % 16) ∨
      (w.toNat / 16 ≠ 1 ∧ w.toNat / 16 ≠ 7 ∧ w.toNat / 16 ≠ 0xB ∧ w.toNat % 16 ≠ 0) := by
  rw [legalWord_eq_false_iff_mask, reservedOperandMask, opcodeField_toNat, ← operandField_toNat]
  generalize w.toNat / 16 = op
  split
  case h_1 | h_2 | h_3 => simp
  case h_4 | h_5 => simp [← and_maskYH_ne_zero_iff]
  case h_6 => simp [← and_maskL_ne_zero_iff]
  case h_7 h0 hD hE h1 h7 hB =>
    have hother : op ≠ 0 ∧ op ≠ 0xD ∧ op ≠ 0xE ∧ op ≠ 1 ∧ op ≠ 7 ∧ op ≠ 0xB := ⟨h0, hD, hE, h1, h7, hB⟩
    simp only [Option.some.injEq, forall_eq', and_maskZ_ne_zero_iff]
    omega

end Sys2Proof

namespace Sys2Proof.Machine

/-- An illegal word is refused with reason 1 (R252). -/
theorem step_of_illegal {s : State} {why : IllegalWord} (hd : decode (nextWord s).word = .illegal why) :
    step s = .refused .illegalOperationWord := by
  simp [step, takeWord, hd]

/-- Settles O4: the decoder refuses what `legalWord` refuses, which is what R99 lists, and a step refuses what the decoder refuses. -/
theorem illegalWordsAreRefused : Obligations.IllegalWordsAreRefused := by
  unfold Obligations.IllegalWordsAreRefused
  refine ⟨fun w => (decode_eq_illegal_iff w).trans (legalWord_eq_false_iff w), fun s l w rest hinput hlegal => ?_⟩
  obtain ⟨why, hwhy⟩ := (decode_eq_illegal_iff w).2 hlegal
  have hd : decode (nextWord s).word = .illegal why := by rwa [nextWord_cons hinput]
  exact step_of_illegal hd

end Sys2Proof.Machine
end

section
/-! The LFSR update generator, `40_lfsr_update_generator.md`: the draw (R134), the Starfield hook in each phase and over a cycle of five
(R135, R140), and who writes `LFSR` and `starPhase` (R138). -/

namespace Sys2Proof.Machine

/-! ## The draw -/

theorem exec_lfsrDraw (s : State) : exec .lfsrDraw s = .next (drawLfsr s) := rfl

/-- A draw writes `LFSR` alone (R134). -/
theorem drawLfsr_writes (s : State) : drawLfsr s = { s with lfsr := (drawLfsr s).lfsr } := rfl

/-- LFSRSTEPs in a row iterate `stepLfsr` (R132). -/
theorem execAll_replicate_lfsrStep (n : Nat) (s : State) :
    execAll (List.replicate n .lfsrStep) s = .next (stepLfsr^[n] s) := by
  induction n generalizing s with
  | zero => rfl
  | succ n ih =>
    have hstep : exec .lfsrStep s = .next (stepLfsr s) := rfl
    rw [List.replicate_succ, execAll_cons_of_next hstep, ih, Function.iterate_succ_apply]

theorem drawnPosition_toNat (s : State) : (drawnPosition s).toNat = s.lfsr.toNat % 16 := by
  simp [drawnPosition]

/-- Settles O22: the draw is `stepLfsr` iterated four times, as four LFSRSTEPs are. -/
theorem drawIsFourSteps : Obligations.DrawIsFourSteps := by
  unfold Obligations.DrawIsFourSteps
  refine ⟨by decide, rfl, fun s => ⟨drawLfsr s, exec_lfsrDraw s, ?_, drawLfsr_writes s, drawnPosition_toNat _⟩⟩
  exact execAll_replicate_lfsrStep 4 s

/-! ## The Starfield hook in each phase -/

theorem exec_hookStar (s : State) : exec .hookStar s = .next (starHook s) := rfl

/-- A lamp's bit is the only one set (R105). -/
theorem lampBit_bit (p : BitVec 4) {b : Nat} (hb : b < 16) : (lampBit p).getLsbD b = decide (b = p.toNat) := by
  rw [lampBit, BitVec.getLsbD_shiftLeft, BitVec.getLsbD_one, Bool.eq_iff_iff]
  simp only [Bool.and_eq_true, Bool.not_eq_true', decide_eq_true_eq, decide_eq_false_iff_not]
  omega

theorem starAction_of_phase_zero {s : State} (h : s.starPhase = 0) : starAction s = starFlash s := by
  rw [starAction, h]; rfl

theorem starAction_of_phase_one {s : State} (h : s.starPhase = 1) : starAction s = clearFb s := by
  rw [starAction, h]; rfl

theorem starAction_of_later_phase {s : State} (h0 : s.starPhase ≠ 0) (h1 : s.starPhase ≠ 1) : starAction s = s := by
  unfold starAction
  split
  case h_1 h => exact absurd (Fin.ext h) h0
  case h_2 h => exact absurd (Fin.ext h) h1
  case h_3 => rfl

/-- The flash: a draw, and the drawn lamp alone (R135). -/
theorem starHook_of_phase_zero {s : State} (h : s.starPhase = 0) :
    starHook s =
      { s with lfsr := (drawLfsr s).lfsr, fb := lampBit (drawnPosition (drawLfsr s)), starPhase := s.starPhase + 1 } := by
  rw [starHook, starAction_of_phase_zero h]; rfl

theorem starHook_of_phase_one {s : State} (h : s.starPhase = 1) :
    starHook s = { s with fb := 0, starPhase := s.starPhase + 1 } := by
  rw [starHook, starAction_of_phase_one h]; rfl

theorem starHook_of_later_phase {s : State} (h0 : s.starPhase ≠ 0) (h1 : s.starPhase ≠ 1) :
    starHook s = { s with starPhase := s.starPhase + 1 } := by
  rw [starHook, starAction_of_later_phase h0 h1]; rfl

/-- Settles O23: one equation of `starHook` per phase; the flash's frame is the drawn lamp's. -/
theorem starHookByPhase : Obligations.StarHookByPhase := by
  unfold Obligations.StarHookByPhase
  refine ⟨by decide, rfl, fun s => ⟨s.starPhase + 1, Fin.val_add _ _, fun h0 => ?_, fun h1 => ?_, fun h0 h1 => ?_⟩⟩
  · refine ⟨drawLfsr s, lampBit (drawnPosition (drawLfsr s)), exec_lfsrDraw s, ?_, fun b hb => ?_⟩
    · rw [exec_hookStar, starHook_of_phase_zero h0]
    · rw [lampBit_bit _ hb, drawnPosition_toNat]
  · rw [exec_hookStar, starHook_of_phase_one h1]
  · rw [exec_hookStar, starHook_of_later_phase h0 h1]

/-! ## Five hooks in a row -/

/-- After phase 0 no hook draws, and one that clears the frame, or finds it clear, leaves it clear (R135, R136). -/
theorem starHook_dark {s : State} (h0 : s.starPhase ≠ 0) (hdark : s.starPhase = 1 ∨ s.fb = 0) :
    (starHook s).fb = 0 ∧ (starHook s).lfsr = s.lfsr := by
  by_cases h1 : s.starPhase = 1
  · rw [starHook_of_phase_one h1]
    exact ⟨rfl, rfl⟩
  · rw [starHook_of_later_phase h0 h1]
    exact ⟨hdark.resolve_left h1, rfl⟩

theorem starHook_iterate_starPhase (n : Nat) (s : State) : (starHook^[n] s).starPhase.val = (s.starPhase.val + n) % 5 := by
  induction n with
  | zero => exact (Nat.mod_eq_of_lt s.starPhase.isLt).symm
  | succ n ih =>
    rw [Function.iterate_succ_apply', starHook_starPhase, Fin.val_add, ih]
    exact Nat.mod_add_mod _ _ _

/-- From phase 0, the second to the fifth hook leave the frame clear and draw nothing (R136, R140). -/
theorem starHook_iterate_dark {s : State} (h0 : s.starPhase = 0) {k : Nat} (hk : k < 4) :
    (starHook^[k + 2] s).fb = 0 ∧ (starHook^[k + 2] s).lfsr = (starHook s).lfsr := by
  induction k with
  | zero =>
    have hphase : (starHook s).starPhase = 1 := by rw [starHook_starPhase, h0]; rfl
    exact starHook_dark (by rw [hphase]; decide) (.inl hphase)
  | succ k ih =>
    obtain ⟨hfb, hlfsr⟩ := ih (by omega)
    have hphase : (starHook^[k + 2] s).starPhase ≠ 0 := by
      rw [← Fin.val_ne_zero_iff, starHook_iterate_starPhase, h0, Fin.val_zero]
      omega
    obtain ⟨hfb', hlfsr'⟩ := starHook_dark hphase (.inr hfb)
    rw [Function.iterate_succ_apply']
    exact ⟨hfb', hlfsr'.trans hlfsr⟩

/-- Settles O24: the first hook draws a lamp and lights it alone, and the other four leave the frame dark. -/
theorem starCycleOfFive : Obligations.StarCycleOfFive := by
  unfold Obligations.StarCycleOfFive
  intro s h0
  have hflash := starHook_of_phase_zero h0
  have hphase : (starHook^[5] s).starPhase = 0 := Fin.ext (by rw [starHook_iterate_starPhase, h0]; rfl)
  obtain ⟨hfb5, hlfsr5⟩ := starHook_iterate_dark h0 (k := 3) (by omega)
  refine ⟨starHook s, starHook^[2] s, starHook^[3] s, starHook^[4] s, starHook^[5] s, exec_hookStar _, exec_hookStar _,
    exec_hookStar _, exec_hookStar _, exec_hookStar _,
    ⟨(drawnPosition (drawLfsr s)).toNat, BitVec.isLt _, fun b hb => ?_⟩, (starHook_iterate_dark h0 (k := 0) (by omega)).1,
    (starHook_iterate_dark h0 (k := 1) (by omega)).1, (starHook_iterate_dark h0 (k := 2) (by omega)).1, hfb5, hphase, ?_⟩
  · rw [hflash, lampBit_bit _ hb]
  · rw [hlfsr5, hflash, drawLfsr_lfsr]

/-! ## Who writes `LFSR` and `starPhase` -/

theorem runHook_keeps_lfsr_starPhase {h : Hook} (hh : h ≠ .starfield) (s : State) :
    (runHook h s).lfsr = s.lfsr ∧ (runHook h s).starPhase = s.starPhase := by
  cases h with
  | starfield => exact absurd rfl hh
  | none | horizontalShift | verticalShift => exact ⟨rfl, rfl⟩

/-- Of the parts of a fire only the Starfield hook writes `LFSR` and `starPhase` (R138). -/
theorem fire_keeps_lfsr_starPhase {s : State} (hh : (selected s).updateHook ≠ .starfield) :
    (fire s).lfsr = s.lfsr ∧ (fire s).starPhase = s.starPhase := by
  simpa [fire] using runHook_keeps_lfsr_starPhase hh (advanceFrame (renderIfAny (selected s) s))

theorem schedule_keeps_lfsr_starPhase {s : State}
    (hs : ¬(s.waitRemaining = 0 ∧ (selected s).updateHook = .starfield)) :
    (schedule s).lfsr = s.lfsr ∧ (schedule s).starPhase = s.starPhase := by
  by_cases hw : s.waitRemaining = 0
  · rw [schedule_of_fire hw]
    exact fire_keeps_lfsr_starPhase fun hh => hs ⟨hw, hh⟩
  · rw [schedule_of_wait hw]
    exact ⟨countWait_lfsr s, countWait_starPhase s⟩

/-- Settles O26: SCANROW, DEBDEC, EDGE and SWITCH write neither register, SCHED only where it fires a Starfield program. -/
theorem lfsrAndPhaseChangeOnlyInStarfield : Obligations.LfsrAndPhaseChangeOnlyInStarfield := by
  unfold Obligations.LfsrAndPhaseChangeOnlyInStarfield
  refine ⟨fun i s t hexec htrace hreset hstar => ?_, fun s => ⟨resetRegisters s, rfl, rfl, rfl⟩⟩
  obtain ⟨-, rfl⟩ := (exec_next_iff i s t).1 hexec
  cases i with
  | scanRow y => exact ⟨rfl, rfl⟩
  | debDec => simp [effect]
  | sched => exact schedule_keeps_lfsr_starPhase fun hs => hstar ⟨rfl, hs⟩
  | edge l => exact ⟨handleEdge_lfsr l s, handleEdge_starPhase l s⟩
  | switch => exact ⟨rfl, rfl⟩
  | reset => exact absurd rfl hreset
  | _ => simp [opClass] at htrace

end Sys2Proof.Machine
end

section
/-! The bitmap transform unit, `41_transform_unit.md`: the rotation of a row (R150, R151), the transform of a frame (R153), RENDER of a
stored frame (R155). -/

namespace Sys2Proof.Machine

/-! ## The rotation of a row -/

/-- The source's formula read on numbers: the mask drops what a shift left within 8 bits could lose (R150). -/
theorem rotl4_toNat (row : Nibble) (k : BitVec 2) : (rotl4 row k).toNat =
    ((row.toNat >>> (4 - k.toNat)) ||| ((row.toNat <<< k.toNat) &&& 0xF)) &&& 0xF := by
  have hrow : row.toNat % 256 = row.toNat := Nat.mod_eq_of_lt (by omega)
  have hmask (n : Nat) : n &&& 15 = n % 16 := Nat.and_two_pow_sub_one_eq_mod n 4
  have hright : row.toNat >>> (4 - k.toNat) % 16 = row.toNat >>> (4 - k.toNat) :=
    Nat.mod_eq_of_lt ((Nat.shiftRight_le _ _).trans_lt row.isLt)
  simp [rotl4, hrow, hmask, hright]

/-- The source's formula is the rotation of a 4-bit word (R150). -/
theorem rotl4_eq_rotateLeft (row : Nibble) (k : BitVec 2) : rotl4 row k = row.rotateLeft k.toNat := by
  revert row k; decide

/-- Bit `c` of a row goes to bit `(c + k) mod 4` (R150). -/
theorem rotl4_bit (row : Nibble) (k : BitVec 2) {c : Nat} (hc : c < 4) :
    (rotl4 row k).getLsbD ((c + k.toNat) % 4) = row.getLsbD c := by
  have hk : k.toNat % 4 = k.toNat := Nat.mod_eq_of_lt k.isLt
  rw [rotl4_eq_rotateLeft, BitVec.getLsbD_rotateLeft, hk]
  by_cases hwrap : c + k.toNat < 4
  · simp [Nat.mod_eq_of_lt hwrap, hwrap]
  · have hmod : (c + k.toNat) % 4 = c + k.toNat - 4 := by omega
    have hlow : c + k.toNat - 4 < k.toNat := by omega
    have hback : 4 - k.toNat + (c + k.toNat - 4) = c := by omega
    simp [hmod, hlow, hback]

theorem rotl4_zero (row : Nibble) : rotl4 row 0 = row :=
  BitVec.eq_of_getLsbD_eq fun c hc => by simpa [Nat.mod_eq_of_lt hc] using rotl4_bit row 0 hc

/-- Settles O11: the bit rule, the source's formula on numbers, and the rotation by 0. -/
theorem rotationMovesBits : Obligations.RotationMovesBits := by
  unfold Obligations.RotationMovesBits
  exact ⟨fun row k _ hc => rotl4_bit row k hc, rotl4_toNat, rotl4_zero⟩

/-! ## The transform of a frame -/

/-- Settles O12: row `y` of the transform is the rotated stored row, whose bit comes from the bit rule of `rotl4`. -/
theorem transformMovesBits : Obligations.TransformMovesBits := by
  unfold Obligations.TransformMovesBits
  intro src xs ys y hy c hc
  have hrow : (BitVec.ofNat 2 y).toNat = y := Nat.mod_eq_of_lt hy
  have hdest : (c + xs.toNat) % 4 < 4 := Nat.mod_lt _ (by decide)
  have hstored : (BitVec.ofNat 2 y + ys).toNat = (y + ys.toNat) % 4 := by rw [BitVec.toNat_add, hrow]
  calc (xform src xs ys).getLsbD (4 * y + (c + xs.toNat) % 4)
      = (rowOf (xform src xs ys) (BitVec.ofNat 2 y)).getLsbD ((c + xs.toNat) % 4) := by rw [rowOf_bit _ _ _ hdest, hrow]
    _ = (rowOf src (BitVec.ofNat 2 y + ys)).getLsbD c := by rw [rowOf_xform, rotl4_bit _ _ hc]
    _ = src.getLsbD (4 * ((y + ys.toNat) % 4) + c) := by rw [rowOf_bit _ _ _ hc, hstored]

/-- The transform without a shift is the frame itself (R153, R157 (a)). -/
theorem xform_zero (src : Frame) : xform src 0 0 = src :=
  frame_ext_rows fun y => by rw [rowOf_xform, rotl4_zero, add_zero]

/-! ## RENDER -/

theorem exec_render (s : State) : exec .render s = .next (render s) := rfl

/-- The source frame, where it is stored: frame 0 of a virtual program, else the frame at the cursor (R155). -/
theorem sourceFrame_of_stored {s : State} {f : Frame}
    (h : (selected s).frames[sourceFrameNumber (selected s) s.frameIndex]? = some f) : sourceFrame s = f :=
  frameRead_of_some h

/-- RENDER of a stored frame writes its transform to `FB` alone (R155). -/
theorem render_of_stored {s : State} {f : Frame}
    (h : (selected s).frames[sourceFrameNumber (selected s) s.frameIndex]? = some f) :
    render s = { s with fb := xform f s.xShift s.yShift } := by
  rw [render, sourceFrame_of_stored h]

/-- Settles O15: RENDER writes the transform of the stored frame, which is the frame where both shifts are 0. -/
theorem renderTransformsSourceFrame : Obligations.RenderTransformsSourceFrame := by
  unfold Obligations.RenderTransformsSourceFrame
  refine ⟨by decide, rfl, fun s f hstored => ?_⟩
  have hexec : exec .render s = .next { s with fb := xform f s.xShift s.yShift } := by
    rw [exec_render, render_of_stored hstored]
  refine ⟨hexec, fun hx hy => ?_⟩
  rw [hexec, hx, hy, xform_zero]

end Sys2Proof.Machine
end

section
/-! The animation scheduler, `42_scheduler.md`: the wait (R174), the frame cursor (R177), the shift hooks and the reload (R182 to R184,
R186), the switch (R190), and SCHED as their sequence (R170, R171). -/

namespace Sys2Proof.Machine

/-! ## The wait -/

theorem exec_waitDec (s : State) : exec .waitDec s = .next (countWait s) := rfl

/-- From a non-zero wait, the count writes `waitRemaining` alone (R174). -/
theorem countWait_writes {s : State} (hw : s.waitRemaining ≠ 0) :
    countWait s = { s with waitRemaining := (countWait s).waitRemaining } := by
  rw [countWait_of_wait hw]

/-- From a non-zero wait, the count takes one off, but leaves the sentinel (R174). -/
theorem countWait_toNat {s : State} (hw : s.waitRemaining ≠ 0) :
    (countWait s).waitRemaining.toNat = if s.waitRemaining.toNat = 255 then 255 else s.waitRemaining.toNat - 1 := by
  rw [countWait_of_wait hw]
  by_cases hsentinel : s.waitRemaining = 255
  · simp [hsentinel]
  · have hother : s.waitRemaining.toNat ≠ 255 := fun h => hsentinel (BitVec.eq_of_toNat_eq h)
    have hpos : 1 ≤ s.waitRemaining := by bv_omega
    simp only [hsentinel, hother, if_false]
    exact BitVec.toNat_sub_of_le hpos

/-- Settles O27: `countWait` writes the wait alone, by the value of `countWait_toNat`. -/
theorem waitDecCountsDownButSentinel : Obligations.WaitDecCountsDownButSentinel := by
  unfold Obligations.WaitDecCountsDownButSentinel
  refine ⟨by decide, rfl, fun s hw => ⟨(countWait s).waitRemaining, ?_, countWait_toNat hw⟩⟩
  rw [exec_waitDec, ← countWait_writes hw]

/-! ## The frame cursor -/

theorem exec_advance (s : State) : exec .advance s = .next (advanceFrame s) := rfl

/-- The frame cursor after one step, for every count (R177; the zero count is decision D9). -/
theorem nextFrame_toNat_eq_ite (n f : BitVec 7) :
    (nextFrame n f).toNat = if n.toNat = 0 then 0 else (f.toNat + 1) % n.toNat := by
  by_cases hn : n = 0
  · subst hn
    rw [nextFrame_zero]
    rfl
  · have hn' : n.toNat ≠ 0 := fun h => hn (BitVec.eq_of_toNat_eq h)
    rw [nextFrame_toNat hn, if_neg hn']

/-- Settles O29: the cursor alone is written, with the value of `nextFrame`. -/
theorem advanceStepsFrameCursor : Obligations.AdvanceStepsFrameCursor := by
  unfold Obligations.AdvanceStepsFrameCursor
  exact ⟨by decide, rfl, fun s =>
    ⟨nextFrame (selected s).frameCount s.frameIndex, exec_advance s, nextFrame_toNat_eq_ite _ _⟩⟩

/-! ## The shift hooks, the reload and the switch -/

theorem exec_hookNone (s : State) : exec .hookNone s = .next s := rfl
theorem exec_hookHShift (s : State) : exec .hookHShift s = .next (horizontalHook s) := rfl
theorem exec_hookVShift (s : State) : exec .hookVShift s = .next (verticalHook s) := rfl
theorem exec_reload (s : State) : exec .reload s = .next (reloadWait s) := rfl
theorem exec_switch (s : State) : exec .switch s = .next (switchProgram s) := rfl

/-- The low two bits of the cursor are its value modulo 4 (R183, R184; decision D10). -/
theorem shiftOf_toNat (f : BitVec 7) : (shiftOf f).toNat = f.toNat % 4 := by
  simp [shiftOf]

/-- Settles O30: each shift hook writes `shiftOf` of the cursor to its own shift. -/
theorem shiftHooksTakeFrameCursor : Obligations.ShiftHooksTakeFrameCursor := by
  unfold Obligations.ShiftHooksTakeFrameCursor
  refine ⟨by decide, by decide, by decide, rfl, rfl, rfl, exec_hookNone, fun s => ?_, fun s => ?_⟩
  · exact ⟨shiftOf s.frameIndex, shiftOf_toNat _, exec_hookHShift s⟩
  · exact ⟨shiftOf s.frameIndex, shiftOf_toNat _, exec_hookVShift s⟩

/-- Settles O31: `reloadWait` writes the selected descriptor's delay to the wait. -/
theorem reloadTakesFrameDelay : Obligations.ReloadTakesFrameDelay := by
  unfold Obligations.ReloadTakesFrameDelay
  exact ⟨by decide, rfl, exec_reload⟩

/-- Settles O35: the next index is the sum in `Fin 7`, which wraps at 7. -/
theorem switchSelectsNextProgram : Obligations.SwitchSelectsNextProgram := by
  unfold Obligations.SwitchSelectsNextProgram
  exact ⟨by decide, rfl, fun s => ⟨s.programIndex + 1, Fin.val_add _ _, exec_switch s⟩⟩

/-! ## SCHED: wait or fire -/

theorem exec_sched (s : State) : exec .sched s = admitAt 5 s (setSeq 0 (schedule s)) := rfl

/-- The operation of a hook runs that hook (R171). -/
theorem exec_hookOp (h : Hook) (s : State) : exec (hookOp h) s = .next (runHook h s) := by
  cases h <;> rfl

/-- The render of a fire, as a list of at most one operation (R171, R178). -/
theorem execAll_renderIfAny (d : Descriptor) (s : State) :
    execAll (if d.frameCount = 0 then [] else [.render]) s = .next (renderIfAny d s) := by
  unfold renderIfAny
  split <;> rfl

/-- A fire is its micro-operations taken one after the other (R108, R171). The descriptor is read once, before them; the reload reads the
same one, since none of them changes the selected program. -/
theorem execAll_fireOps (s : State) : execAll (fireOps (selected s)) s = .next (fire s) := by
  rw [fireOps, execAll_append (execAll_renderIfAny _ s), execAll_cons_of_next (exec_advance _),
    execAll_cons_of_next (exec_hookOp _ _), execAll_cons_of_next (exec_reload _)]
  rfl

/-- Settles O32: a wait is `countWait`, a fire is `fireOps` taken in order, and the admission is that of phase 5. -/
theorem schedCountsDownOrFires : Obligations.SchedCountsDownOrFires := by
  unfold Obligations.SchedCountsDownOrFires
  refine ⟨by decide, rfl, fun s hseq hw => ?_, fun s hseq hw => ?_, fun s hseq => admitAt_eq_refused 5 s _ hseq⟩
  · refine ⟨(countWait s).waitRemaining, ?_, countWait_toNat hw⟩
    rw [exec_sched, admitAt_eq_next 5 s _ hseq, schedule_of_wait hw, countWait_writes hw]
    rfl
  · refine ⟨fire s, ?_, ?_⟩
    · rw [exec_sched, admitAt_eq_next 5 s _ hseq, schedule_of_fire hw]
      rfl
    · rw [← execAll_fireOps s, fireOps, selected]
      cases (s.table[s.programIndex]).updateHook <;> simp [hookOp]

end Sys2Proof.Machine
end

section
/-! The input debouncer, `43_input_debouncer.md`: what a notification does inside and outside a lockout (R200, R201), and the lockout's
countdown (R208). -/

namespace Sys2Proof.Machine

/-! ## EDGE: dropped, press, or no press -/

/-- Outside a lockout, a notification that finds the level low after a high one is a press (R200). -/
theorem handleEdge_press {s : State} (hopen : s.debounceCountdown = 0) (hhigh : s.prevRawLevel = true) :
    handleEdge false s = rememberLevel false (acceptPress s) := by
  rw [handleEdge_open hopen, hhigh]
  rfl

/-- Outside a lockout, any other notification leaves the level it read, and nothing else (R200). -/
theorem handleEdge_noPress {l : Bool} {s : State} (hopen : s.debounceCountdown = 0)
    (hother : ¬(s.prevRawLevel = true ∧ l = false)) : handleEdge l s = rememberLevel l s := by
  rw [handleEdge_open hopen, if_neg (by simpa using hother)]

/-- Settles O36: the handler's three cases, `handleEdge_locked`, `handleEdge_press` and `handleEdge_noPress`. -/
theorem edgeHandlesPressOrDrops : Obligations.EdgeHandlesPressOrDrops := by
  unfold Obligations.EdgeHandlesPressOrDrops
  refine ⟨by decide, by decide, fun _ => rfl, fun s l hlocked => ?_, fun s hopen hhigh => ?_, fun s l hopen hother => ?_⟩
  · rw [exec_edge, handleEdge_locked hlocked]
  · refine ⟨s.programIndex + 1, Fin.val_add _ _, ?_⟩
    rw [exec_edge, handleEdge_press hopen hhigh]
    rfl
  · rw [exec_edge, handleEdge_noPress hopen hother]
    rfl

/-! ## DEBDEC: the lockout's countdown -/

theorem exec_debDec (s : State) : exec .debDec s = admitAt 4 s (setSeq 5 (countLockout s)) := rfl

/-- The count writes `debounceCountdown` alone (R208). -/
theorem countLockout_writes (s : State) :
    countLockout s = { s with debounceCountdown := (countLockout s).debounceCountdown } := by
  unfold countLockout
  split <;> rfl

/-- Settles O37: `countLockout` writes the countdown alone, by the value of `countLockout_toNat`; the admission is that of phase 4. -/
theorem debDecCountsLockoutDown : Obligations.DebDecCountsLockoutDown := by
  unfold Obligations.DebDecCountsLockoutDown
  refine ⟨by decide, rfl, fun s hseq => ?_, fun s hseq => admitAt_eq_refused 4 s _ hseq⟩
  refine ⟨(countLockout s).debounceCountdown, countLockout_toNat s, ?_⟩
  rw [exec_debDec, admitAt_eq_next 4 s _ hseq, countLockout_writes]
  rfl

end Sys2Proof.Machine
end

section
/-! The scan multiplexer, `44_scan_multiplexer.md`: SCANROW (R215). -/

namespace Sys2Proof.Machine

theorem exec_scanRow (y : BitVec 2) (s : State) :
    exec (.scanRow y) s = admitAt (phaseOfRow y) s (effect (.scanRow y) s) := rfl

/-- `SEQ` is the phase of a row exactly where its value is the row's number (R24). -/
theorem eq_phaseOfRow_iff (k : Fin 6) (y : BitVec 2) : k = phaseOfRow y ↔ k.val = y.toNat := Fin.ext_iff

/-- The word of SCANROW y is `0x10 + y` (R93). -/
theorem encode_scanRow (y : BitVec 2) : encode (.scanRow y) = BitVec.ofNat 8 (0x10 + y.toNat) := by
  revert y; decide

/-- Settles O8: in its phase SCANROW has its effect, whose byte is the drive word of `driveWord_select` and `driveWord_data`; in another
phase it is not admitted. -/
theorem scanRowSendsOneDriveWord : Obligations.ScanRowSendsOneDriveWord := by
  unfold Obligations.ScanRowSendsOneDriveWord
  refine ⟨fun y => ⟨?_, rfl⟩, fun s y hseq => ?_, fun s y hseq => ?_⟩
  · rw [← encode_scanRow]
    exact (Laws.WordReadsBack.scanRow y).2
  · refine ⟨driveWord s.fb y, phaseAfterRow y, ?_, rfl, fun i hi => ?_, driveWord_data s.fb y⟩
    · rw [exec_scanRow, admitAt_eq_next _ _ _ ((eq_phaseOfRow_iff _ _).2 hseq), effect_scanRow]
    · rw [driveWord_select, selectNibble_bit y hi]
  · rw [exec_scanRow, admitAt_eq_refused _ _ _ (mt (eq_phaseOfRow_iff _ _).1 hseq)]

end Sys2Proof.Machine
end

section
/-! The main sequencer, `45_main_sequencer.md`: RESET (R236) and the state after it (R38). -/

namespace Sys2Proof.Machine

theorem exec_reset (s : State) : exec .reset s = .next (resetRegisters s) := rfl

/-- RESET leaves the state after reset as it is: each register there already holds its reset value (R38). -/
theorem resetRegisters_reset : resetRegisters State.reset = State.reset := rfl

/-- Settles O46: RESET is `resetRegisters` in every state, which fixes `State.reset`, so that the registers there are those it writes. -/
theorem resetGivesResetState : Obligations.ResetGivesResetState := by
  unfold Obligations.ResetGivesResetState
  refine ⟨Laws.WordReadsBack.reset.2, rfl, exec_reset, ?_⟩
  have hout : State.reset.out = [] := rfl
  rw [← resetRegisters_reset]
  simp [hout, Config.fbReset, Config.lfsrSeed]

end Sys2Proof.Machine
end

section
/-! What a step can do, over all operations (`45_main_sequencer.md` R230, `60_exceptions.md` R252, R253): the phase each operation leaves, the
queue of placed words, and traces the sequencer and the external events can produce. -/

namespace Sys2Proof.Machine

/-! ## What every operation leaves in `input` and `SEQ` -/

@[simp] theorem effect_input (i : Instr) (s : State) : (effect i s).input = s.input := by cases i <;> simp [effect]

/-- A sequencer step leaves the next phase, phase 5 going to phase 0 (R24, R230). -/
theorem effect_seq_of_phase {i : Instr} {k : Fin 6} (h : phaseOf i = some k) (s : State) : (effect i s).seq = k + 1 := by
  cases i with
  | scanRow y =>
    obtain rfl : phaseOfRow y = k := Option.some.inj h
    have hrow : phaseAfterRow y = phaseOfRow y + 1 := by revert y; decide
    exact hrow
  | debDec | sched =>
    obtain rfl := Option.some.inj h
    rfl
  | _ => cases h

/-- Exactly the sequencer steps have a phase (R94). -/
theorem phaseOf_eq_none {i : Instr} (h : opClass i ≠ .S) : phaseOf i = none := by
  cases i with
  | scanRow | debDec | sched => exact absurd rfl h
  | _ => rfl

/-- An external event leaves the phase as it is, but RESET restores it (R200, R236). -/
theorem effect_seq_of_event {i : Instr} (h : opClass i = .E) (s : State) :
    (effect i s).seq = if i = .reset then 0 else s.seq := by
  cases i with
  | edge l => exact handleEdge_seq l s
  | reset => rfl
  | _ => cases h

/-! ## Traces that are never refused -/

/-- The first word of an admissible trace stands at the top level and is a sequencer step in its phase or an external event; the words
after it are admissible from the phase it leaves (R253). -/
theorem admissible_cons {k : Fin 6} {w : TraceWord} {rest : List TraceWord} (h : admissible k (w :: rest) = true) :
    ∃ i, decode w.word = .ok i ∧ opClass i ≠ .M ∧ (∀ j, phaseOf i = some j → k = j) ∧
      ∀ s : State, s.seq = k → admissible (effect i s).seq rest = true := by
  unfold admissible at h
  obtain ⟨-, h⟩ := Bool.and_eq_true_iff.1 h
  split at h
  · cases h
  case h_2 i hdecode =>
    refine ⟨i, hdecode, ?_⟩
    split at h
    case h_1 hS =>
      obtain ⟨hphase, hrest⟩ := Bool.and_eq_true_iff.1 h
      have hphase := eq_of_beq hphase
      refine ⟨by simp [hS], fun j hj => Option.some.inj (hphase.symm.trans hj), fun s _ => ?_⟩
      rwa [effect_seq_of_phase hphase]
    · cases h
    case h_3 hE =>
      refine ⟨by simp [hE], fun j hj => ?_, fun s hs => ?_⟩
      · rw [phaseOf_eq_none (by simp [hE])] at hj
        cases hj
      · rwa [effect_seq_of_event hE, hs]

theorem admittedAtLevel_of_not_micro {i : Instr} (h : opClass i ≠ .M) (l : Level) : admittedAtLevel l i = true := by
  simp [admittedAtLevel, h]

/-- Settles O55: with no word placed the sequencer's own step is taken; a placed word is in its phase, and leaves the rest admissible. -/
theorem stepKeepsTraceAdmissible : Obligations.StepKeepsTraceAdmissible := by
  unfold Obligations.StepKeepsTraceAdmissible
  intro s hs
  cases hinput : s.input with
  | nil => exact ⟨_, step_nil hinput, by simp [hinput, admissible]⟩
  | cons w rest =>
    rw [hinput] at hs
    obtain ⟨i, hdecode, hclass, hphase, hrest⟩ := admissible_cons hs
    refine ⟨effect i (afterFetch s), ?_, ?_⟩
    · rw [← nextWord_cons hinput] at hdecode
      rw [step_of_decode hdecode (admittedAtLevel_of_not_micro hclass _)]
      exact exec_eq_next i _ hphase
    · rw [effect_input, afterFetch_input, hinput]
      exact hrest (afterFetch s) rfl

/-- Settles O56, by induction on the number of steps. -/
theorem admissibleTracesAreNeverRefused : Obligations.AdmissibleTracesAreNeverRefused := by
  unfold Obligations.AdmissibleTracesAreNeverRefused
  intro k
  induction k with
  | zero => exact fun s _ => ⟨s, rfl⟩
  | succ k ih =>
    intro s hs
    obtain ⟨t, hstep, ht⟩ := stepKeepsTraceAdmissible s hs
    obtain ⟨u, hrun⟩ := ih t ht
    exact ⟨u, (run_succ_of_next hstep).trans hrun⟩

/-! ## Completion and refusal -/

/-- A sequencer step out of its phase is refused with reason 3 (R94, R252). -/
theorem exec_of_other_phase {i : Instr} {k : Fin 6} {s : State} (hphase : phaseOf i = some k) (hs : s.seq ≠ k) :
    exec i s = .refused .outOfSequence := by
  cases i with
  | scanRow | debDec | sched =>
    obtain rfl := Option.some.inj hphase
    exact admitAt_eq_refused _ s _ hs
  | _ => cases hphase

theorem exec_next_or_outOfSequence (i : Instr) (s : State) :
    (∃ t, exec i s = .next t) ∨ exec i s = .refused .outOfSequence := by
  by_cases hs : ∀ k, phaseOf i = some k → s.seq = k
  · exact .inl ⟨_, exec_eq_next i s hs⟩
  · push Not at hs
    obtain ⟨k, hphase, hne⟩ := hs
    exact .inr (exec_of_other_phase hphase hne)

/-- A micro-operation that stands as a step of a trace is refused with reason 2 (R94, R252). -/
theorem step_of_micro {s : State} {i : Instr} (hd : decode (nextWord s).word = .ok i)
    (ha : ¬ admittedAtLevel (nextWord s).level i = true) : step s = .refused .microOpAtTopLevel := by
  simp [step, takeWord, hd, ha]

/-- Settles O51: an admitted operation has its effect; a step is refused for its word, its level or its phase. -/
theorem everyAdmittedOperationCompletes : Obligations.EveryAdmittedOperationCompletes := by
  unfold Obligations.EveryAdmittedOperationCompletes
  refine ⟨fun i s h => ⟨_, exec_eq_next i s h⟩, fun i s k hphase hs => exec_of_other_phase hphase hs, fun s => ?_⟩
  cases hd : decode (nextWord s).word with
  | illegal why => exact .inr (.inl (step_of_illegal hd))
  | ok i =>
    by_cases ha : admittedAtLevel (nextWord s).level i = true
    · rw [step_of_decode hd ha]
      rcases exec_next_or_outOfSequence i (afterFetch s) with h | h
      · exact .inl h
      · exact .inr (.inr (.inr h))
    · exact .inr (.inr (.inl (step_of_micro hd ha)))

/-! ## One step, by its word -/

theorem afterFetch_cons {s : State} {w : TraceWord} {rest : List TraceWord} (h : s.input = w :: rest) :
    afterFetch s = { s with input := rest } := by
  rw [afterFetch, h, List.tail_cons]

theorem step_cons_of_decode {s : State} {l : Level} {w : Byte} {rest : List TraceWord} {i : Instr}
    (hinput : s.input = ⟨l, w⟩ :: rest) (hd : decode w = .ok i) (ha : admittedAtLevel l i = true) :
    step s = exec i { s with input := rest } := by
  rw [← afterFetch_cons hinput]
  have hnext := nextWord_cons hinput
  exact step_of_decode (by rwa [hnext]) (by rwa [hnext])

/-- With no word placed, a step runs the main sequencer's own operation (R230). -/
theorem step_nil_eq_exec {s : State} {k : Fin 6} (hinput : s.input = []) (hs : s.seq = k) :
    step s = exec (sequencerOp k) s := by
  rw [step_nil hinput, hs]
  exact (exec_eq_next _ s (by simp [phaseOf_sequencerOp, hs])).symm

/-- Settles O5: a placed word by `step_cons_of_decode`; each phase of the sequencer by `step_nil_eq_exec`. -/
theorem stepRunsDecodedOperation : Obligations.StepRunsDecodedOperation := by
  unfold Obligations.StepRunsDecodedOperation
  constructor
  · intro s l w rest i hinput hd hlevel
    exact step_cons_of_decode hinput hd (by simpa [admittedAtLevel] using hlevel)
  · intro s hinput
    exact ⟨step_nil_eq_exec hinput, step_nil_eq_exec hinput, step_nil_eq_exec hinput, step_nil_eq_exec hinput,
      step_nil_eq_exec hinput, step_nil_eq_exec hinput⟩

/-- Settles O6: each of the words decodes to an operation of class M, which the top level refuses. -/
theorem microOperationsRefusedAtTopLevel : Obligations.MicroOperationsRefusedAtTopLevel := by
  unfold Obligations.MicroOperationsRefusedAtTopLevel
  intro s w rest hinput hw
  have hdecode : ∃ i, decode w = .ok i ∧ opClass i = .M := by
    simp only [List.mem_cons, List.not_mem_nil, or_false] at hw
    rcases hw with rfl | rfl | rfl | rfl | rfl | rfl | rfl | rfl | rfl | rfl | rfl <;> exact ⟨_, rfl, rfl⟩
  obtain ⟨i, hd, hclass⟩ := hdecode
  have hnext := nextWord_cons hinput
  exact step_of_micro (by rwa [hnext]) (by rw [hnext]; simp [admittedAtLevel, hclass])

/-! ## The six sequencer words -/

/-- The list of the six sequencer words is `sequencerWord` of the phases in order (R93, R230). -/
theorem sequencerWords_eq (j : Nat) (w : Byte) (h : [0x10#8, 0x11, 0x12, 0x13, 0x20, 0x30][j]? = some w) :
    ∃ hj : j < 6, w = sequencerWord ⟨j, hj⟩ := by
  obtain ⟨hj, hw⟩ := List.getElem?_eq_some_iff.1 h
  have hlist : ∀ k : Fin 6, [0x10#8, 0x11, 0x12, 0x13, 0x20, 0x30][k] = sequencerWord k := by decide
  exact ⟨hj, hw.symm.trans (hlist ⟨j, hj⟩)⟩

theorem step_sequencerWord {s : State} {k : Fin 6} {rest : List TraceWord}
    (hinput : s.input = ⟨.top, sequencerWord k⟩ :: rest) : step s = exec (sequencerOp k) { s with input := rest } := by
  have hadmitted : ∀ k : Fin 6, admittedAtLevel .top (sequencerOp k) = true := by decide
  exact step_cons_of_decode hinput (decode_sequencerWord k) (hadmitted k)

/-- Settles O7: the word of the phase is taken and leaves the next phase, another phase's is refused; EDGE and RESET have no phase. -/
theorem oneSequencerWordPerPhase : Obligations.OneSequencerWordPerPhase := by
  unfold Obligations.OneSequencerWordPerPhase
  constructor
  · intro s w rest j hinput hw
    obtain ⟨hj, rfl⟩ := sequencerWords_eq j w hw
    rw [step_sequencerWord hinput]
    have hphase := phaseOf_sequencerOp ⟨j, hj⟩
    refine ⟨fun hseq => ⟨_, exec_eq_next _ _ fun k hk => ?_, ?_⟩, fun hseq => exec_of_other_phase hphase fun h => ?_⟩
    · exact (Fin.ext hseq.symm).trans (Option.some.inj (hphase.symm.trans hk))
    · rw [effect_seq_of_phase hphase, Fin.val_add]
      rfl
    · exact hseq (congrArg Fin.val h).symm
  · intro s w rest hinput hw
    have hdecode : ∃ i, decode w = .ok i ∧ opClass i = .E := by
      simp only [List.mem_cons, List.not_mem_nil, or_false] at hw
      rcases hw with rfl | rfl | rfl <;> exact ⟨_, rfl, rfl⟩
    obtain ⟨i, hd, hclass⟩ := hdecode
    rw [step_cons_of_decode hinput hd (admittedAtLevel_of_not_micro (by simp [hclass]) _)]
    exact ⟨_, exec_eq_next i _ fun k hk => by rw [phaseOf_eq_none (by simp [hclass])] at hk; cases hk⟩

end Sys2Proof.Machine
end

section
/-! The invariants: what every step keeps of the registers (`10_state.md` R36, `40_lfsr_update_generator.md` R133), and what a step of the
block keeps of `FB` and the shifts (R36, R185). -/

namespace Sys2Proof.Machine

/-! ## The handler, in its three cases -/

/-- EDGE drops the notification, recognises a press, or remembers the level alone (R200, R201). -/
theorem handleEdge_cases (l : Bool) (s : State) :
    handleEdge l s = s ∨ handleEdge l s = rememberLevel l (acceptPress s) ∨ handleEdge l s = rememberLevel l s := by
  by_cases hopen : s.debounceCountdown = 0
  · rw [handleEdge_open hopen]
    split
    · exact .inr (.inl rfl)
    · exact .inr (.inr rfl)
  · exact .inl (handleEdge_locked hopen)

/-! ## The frame cursor stays in range (R26, R36 (1)) -/

theorem frameInRange_of_zero {s : State} (h : s.frameIndex = 0) : FrameInRange s := by
  refine ⟨fun hn => ?_, fun _ => h⟩
  have hpos : (selected s).frameCount.toNat ≠ 0 := fun h0 => hn (BitVec.eq_of_toNat_eq h0)
  rw [h]
  exact Nat.pos_of_ne_zero hpos

theorem frameInRange_of_nextFrame {s : State} {f : BitVec 7} (h : s.frameIndex = nextFrame (selected s).frameCount f) :
    FrameInRange s := by
  refine ⟨fun hn => ?_, fun hn => by rw [h, hn, nextFrame_zero]⟩
  have hpos : (selected s).frameCount.toNat ≠ 0 := fun h0 => hn (BitVec.eq_of_toNat_eq h0)
  rw [h, nextFrame_toNat hn]
  exact Nat.mod_lt _ (Nat.pos_of_ne_zero hpos)

theorem FrameInRange.congr {s t : State} (h : FrameInRange s) (hsel : selected t = selected s)
    (hf : t.frameIndex = s.frameIndex) : FrameInRange t := by
  unfold FrameInRange
  rw [hsel, hf]
  exact h

/-- Every operation keeps the cursor and the program, clears the cursor, or steps it. -/
theorem effect_keeps_frameInRange (i : Instr) {s : State} (h : FrameInRange s) : FrameInRange (effect i s) := by
  cases i with
  | sched =>
    by_cases hw : s.waitRemaining = 0
    · exact frameInRange_of_nextFrame (f := s.frameIndex) (by simp [effect, schedule_of_fire hw])
    · exact h.congr (by simp [effect]) (by simp [effect, schedule_of_wait hw])
  | edge l =>
    rcases handleEdge_cases l s with he | he | he <;> rw [effect, he]
    · exact h
    · exact frameInRange_of_zero rfl
    · exact h.congr rfl rfl
  | advance => exact frameInRange_of_nextFrame rfl
  | switch => exact frameInRange_of_zero rfl
  | reset => exact frameInRange_of_zero rfl
  | _ => exact h.congr (by simp [effect]) (by simp [effect])

/-! ## The LFSR is stepped or restored, and stays non-zero (R36 (6), R133 (b)) -/

theorem starHook_lfsr_iterate (s : State) : ∃ n, (starHook s).lfsr = (lfsrStepBy s.lfsrOverrides)^[n] s.lfsr := by
  by_cases h0 : s.starPhase = 0
  · exact ⟨4, by rw [starHook_of_phase_zero h0, drawLfsr_lfsr]⟩
  · by_cases h1 : s.starPhase = 1
    · exact ⟨0, by rw [starHook_of_phase_one h1]; rfl⟩
    · exact ⟨0, by rw [starHook_of_later_phase h0 h1]; rfl⟩

theorem schedule_lfsr_iterate (s : State) : ∃ n, (schedule s).lfsr = (lfsrStepBy s.lfsrOverrides)^[n] s.lfsr := by
  by_cases hs : s.waitRemaining = 0 ∧ (selected s).updateHook = .starfield
  · obtain ⟨n, hn⟩ := starHook_lfsr_iterate (advanceFrame (renderIfAny (selected s) s))
    exact ⟨n, by simpa [schedule_of_fire hs.1, fire, hs.2, runHook] using hn⟩
  · exact ⟨0, (schedule_keeps_lfsr_starPhase hs).1⟩

/-- An operation other than RESET leaves in `LFSR` some iterate of the step function in force. -/
theorem effect_lfsr_iterate {i : Instr} (hi : i ≠ .reset) (s : State) :
    ∃ n, (effect i s).lfsr = (lfsrStepBy s.lfsrOverrides)^[n] s.lfsr := by
  cases i with
  | sched => exact schedule_lfsr_iterate s
  | hookStar => exact starHook_lfsr_iterate s
  | lfsrStep => exact ⟨1, rfl⟩
  | lfsrDraw => exact ⟨4, rfl⟩
  | reset => exact absurd rfl hi
  | _ => exact ⟨0, by simp [effect]⟩

theorem AdmissibleStep.iterate_ne_zero {o : List (LfsrWord × LfsrWord)} (h : AdmissibleStep o) {v : LfsrWord} (hv : v ≠ 0)
    (n : Nat) : (lfsrStepBy o)^[n] v ≠ 0 := by
  induction n with
  | zero => exact hv
  | succ n ih =>
    rw [Function.iterate_succ_apply']
    exact h _ ih

theorem effect_keeps_lfsr_ne_zero (i : Instr) {s : State} (hstep : AdmissibleStep s.lfsrOverrides) (h : s.lfsr ≠ 0) :
    (effect i s).lfsr ≠ 0 := by
  by_cases hi : i = .reset
  · subst hi
    exact (by decide : Config.lfsrSeed ≠ 0)
  · obtain ⟨n, hn⟩ := effect_lfsr_iterate hi s
    rw [hn]
    exact hstep.iterate_ne_zero h n

/-- Settles O25: RESET leaves the seed, any other operation an iterate of the step function. -/
theorem anyAdmissibleStepKeepsLfsrNonzero : Obligations.AnyAdmissibleStepKeepsLfsrNonzero := by
  unfold Obligations.AnyAdmissibleStepKeepsLfsrNonzero
  intro i s t hstep h hexec
  obtain ⟨-, rfl⟩ := (exec_next_iff i s t).1 hexec
  exact effect_keeps_lfsr_ne_zero i hstep h

/-! ## The lockout stays bounded (R36 (8)) -/

theorem effect_keeps_lockoutBounded (i : Instr) {s : State} (h : s.debounceCountdown.toNat ≤ 30) :
    (effect i s).debounceCountdown.toNat ≤ 30 := by
  cases i with
  | debDec =>
    have hcount := countLockout_toNat s
    rw [effect, setSeq_debounceCountdown]
    omega
  | edge l =>
    rcases handleEdge_cases l s with he | he | he <;> rw [effect, he]
    · exact h
    · exact (by decide : Config.debounceReload.toNat ≤ 30)
    · exact h
  | reset => exact Nat.zero_le 30
  | _ => simpa [effect] using h

/-! ## The register invariants -/

theorem RegisterInv.effect {s : State} (h : RegisterInv s) (i : Instr) : RegisterInv (effect i s) where
  tableWf := by rw [effect_table]; exact h.tableWf
  frameInRange := effect_keeps_frameInRange i h.frameInRange
  lfsrNonzero := effect_keeps_lfsr_ne_zero i h.stepAdmissible h.lfsrNonzero
  stepAdmissible := by rw [effect_lfsrOverrides]; exact h.stepAdmissible
  lockoutBounded := effect_keeps_lockoutBounded i h.lockoutBounded

/-- A fetch touches no register. -/
theorem RegisterInv.afterFetch {s : State} (h : RegisterInv s) : RegisterInv (afterFetch s) :=
  ⟨h.tableWf, h.frameInRange, h.lfsrNonzero, h.stepAdmissible, h.lockoutBounded⟩

/-- A step that answers a next state has the effect of one operation its level admits, after the fetch. -/
theorem step_next_effect {s t : State} (h : step s = .next t) :
    ∃ i, admittedAtLevel (nextWord s).level i = true ∧ t = effect i (afterFetch s) := by
  obtain ⟨i, -, ha, hexec⟩ := step_next_cases h
  obtain ⟨-, rfl⟩ := (exec_next_iff i _ t).1 hexec
  exact ⟨i, ha, rfl⟩

/-- Settles O52: the fetch and the effect of every operation keep each of the five invariants. -/
theorem stepKeepsRegisterInvariant : Obligations.StepKeepsRegisterInvariant := by
  unfold Obligations.StepKeepsRegisterInvariant
  intro s t h hstep
  obtain ⟨i, -, rfl⟩ := step_next_effect hstep
  exact h.afterFetch.effect i

/-! ## What `FB` can hold (R36, C5) -/

/-- The render of a fire leaves `FB` or puts the transform of a stored frame there. -/
theorem fbOrigin_renderIfAny {s : State} (hreg : RegisterInv s) (h : FbOrigin s.table s.fb) :
    FbOrigin s.table (renderIfAny (selected s) s).fb := by
  unfold renderIfAny
  split
  · exact h
  case isFalse hn =>
    exact .inr (.inr (.inl ⟨s.programIndex, sourceFrame s, s.xShift, s.yShift,
      sourceFrame_mem hreg.tableWf hreg.frameInRange hn, rfl⟩))

/-- The Starfield hook lights one lamp, clears, or leaves `FB`. -/
theorem fbOrigin_starHook {t : ProgramTable} {s : State} (h : FbOrigin t s.fb) : FbOrigin t (starHook s).fb := by
  by_cases h0 : s.starPhase = 0
  · rw [starHook_of_phase_zero h0]
    exact .inr (.inr (.inr ⟨_, rfl⟩))
  · by_cases h1 : s.starPhase = 1
    · rw [starHook_of_phase_one h1]
      exact .inr (.inl rfl)
    · rwa [starHook_of_later_phase h0 h1]

theorem fbOrigin_runHook {t : ProgramTable} {s : State} (hook : Hook) (h : FbOrigin t s.fb) :
    FbOrigin t (runHook hook s).fb := by
  cases hook with
  | none | horizontalShift | verticalShift => exact h
  | starfield => exact fbOrigin_starHook h

theorem fbOrigin_schedule {s : State} (hreg : RegisterInv s) (h : FbOrigin s.table s.fb) :
    FbOrigin s.table (schedule s).fb := by
  by_cases hw : s.waitRemaining = 0
  · rw [schedule_of_fire hw]
    have hrender : FbOrigin s.table (advanceFrame (renderIfAny (selected s) s)).fb := fbOrigin_renderIfAny hreg h
    exact fbOrigin_runHook (selected s).updateHook hrender
  · rwa [schedule_of_wait hw, countWait_fb]

theorem fbOrigin_effect {i : Instr} (hi : opClass i ≠ .M) {s : State} (hreg : RegisterInv s) (h : FbOrigin s.table s.fb) :
    FbOrigin s.table (effect i s).fb := by
  cases i with
  | sched => exact fbOrigin_schedule hreg h
  | reset => exact .inl rfl
  | scanRow | debDec | edge => simpa [effect] using h
  | _ => exact absurd rfl hi

/-! ## Which shift can be non-zero (R185) -/

theorem shiftsMatchHook_of_zero {s : State} (hx : s.xShift = 0) (hy : s.yShift = 0) : ShiftsMatchHook s :=
  ⟨fun _ => hx, fun _ => hy⟩

theorem ShiftsMatchHook.congr {s t : State} (h : ShiftsMatchHook s) (hsel : selected t = selected s)
    (hx : t.xShift = s.xShift) (hy : t.yShift = s.yShift) : ShiftsMatchHook t := by
  unfold ShiftsMatchHook
  rw [hsel, hx, hy]
  exact h

/-- Only HOOK.HSHIFT writes `xShift` (R183, R185). -/
theorem runHook_xShift (hook : Hook) (s : State) :
    (runHook hook s).xShift = if hook = .horizontalShift then shiftOf s.frameIndex else s.xShift := by
  cases hook <;> simp [runHook]

/-- Only HOOK.VSHIFT writes `yShift` (R184, R185). -/
theorem runHook_yShift (hook : Hook) (s : State) :
    (runHook hook s).yShift = if hook = .verticalShift then shiftOf s.frameIndex else s.yShift := by
  cases hook <;> simp [runHook]

/-- A fire writes `xShift` in its hook alone, from the stepped cursor (R171, R183). -/
theorem fire_xShift (s : State) : (fire s).xShift =
    if (selected s).updateHook = .horizontalShift then shiftOf (fire s).frameIndex else s.xShift := by
  simp [fire, runHook_xShift]

/-- A fire writes `yShift` in its hook alone, from the stepped cursor (R171, R184). -/
theorem fire_yShift (s : State) : (fire s).yShift =
    if (selected s).updateHook = .verticalShift then shiftOf (fire s).frameIndex else s.yShift := by
  simp [fire, runHook_yShift]

theorem shiftsMatchHook_schedule {s : State} (h : ShiftsMatchHook s) : ShiftsMatchHook (schedule s) := by
  by_cases hw : s.waitRemaining = 0
  · rw [schedule_of_fire hw]
    unfold ShiftsMatchHook
    rw [fire_selected]
    refine ⟨fun hx => ?_, fun hy => ?_⟩
    · rw [fire_xShift, if_neg hx]
      exact h.1 hx
    · rw [fire_yShift, if_neg hy]
      exact h.2 hy
  · rw [schedule_of_wait hw]
    exact h.congr (countWait_selected s) (countWait_xShift s) (countWait_yShift s)

theorem shiftsMatchHook_effect {i : Instr} (hi : opClass i ≠ .M) {s : State} (h : ShiftsMatchHook s) :
    ShiftsMatchHook (effect i s) := by
  cases i with
  | scanRow y => exact h.congr rfl rfl rfl
  | debDec => exact h.congr (by simp [effect]) (by simp [effect]) (by simp [effect])
  | sched => exact (shiftsMatchHook_schedule h).congr rfl rfl rfl
  | edge l =>
    rcases handleEdge_cases l s with he | he | he <;> rw [effect, he]
    · exact h
    · exact shiftsMatchHook_of_zero rfl rfl
    · exact h.congr rfl rfl rfl
  | reset => exact shiftsMatchHook_of_zero rfl rfl
  | _ => exact absurd rfl hi

/-! ## The block's invariants -/

/-- A step of the block is no micro-operation run alone: a placed word is at the top level, and so is the sequencer's own. -/
theorem nextWord_level_of_topLevel {s : State} (h : TopLevelInput s) : (nextWord s).level = .top := by
  cases hinput : s.input with
  | nil => rw [nextWord_nil hinput]
  | cons w rest =>
    rw [nextWord_cons hinput]
    exact h w (by simp [hinput])

theorem BlockInv.effect_afterFetch {s : State} (h : BlockInv s) {i : Instr} (hi : opClass i ≠ .M) :
    BlockInv (effect i (Machine.afterFetch s)) where
  registers := h.registers.afterFetch.effect i
  topLevel := by
    intro w hw
    rw [effect_input, afterFetch_input] at hw
    exact h.topLevel w (List.mem_of_mem_tail hw)
  shifts := shiftsMatchHook_effect hi (h.shifts.congr rfl rfl rfl)
  fbOrigin := by
    rw [effect_table]
    exact fbOrigin_effect hi h.registers.afterFetch h.fbOrigin

/-- Settles O53: the operation of the step is one of a trace, and its effect keeps what `FB` and the shifts can hold. -/
theorem stepKeepsBlockInvariant : Obligations.StepKeepsBlockInvariant := by
  unfold Obligations.StepKeepsBlockInvariant
  intro s t h hstep
  obtain ⟨i, hadmitted, rfl⟩ := step_next_effect hstep
  rw [nextWord_level_of_topLevel h.topLevel] at hadmitted
  exact h.effect_afterFetch (by simpa [admittedAtLevel] using hadmitted)

/-! ## The table at reset, and the state after reset -/

theorem programTable_getElem (i : Fin 7) : Config.programTable[i] = Config.descriptor i := by
  fin_cases i <;> rfl

theorem descriptor_wf (i : Fin 7) : (Config.descriptor i).wf = true := by
  rw [Descriptor.wf_iff]
  unfold Config.descriptor Config.storedFrames
  split
  · rfl
  · split
    · simp
    · simp

theorem programTable_wf : Config.programTable.Wf := fun i => by
  rw [programTable_getElem]
  exact descriptor_wf i

/-- Settles O59: the open index of the scroll program is not 0, so both descriptors stand in the table. -/
theorem resetTableHoldsSourceDescriptors : Obligations.ResetTableHoldsSourceDescriptors := by
  unfold Obligations.ResetTableHoldsSourceDescriptors
  refine ⟨programTable_wf, ⟨rfl, rfl, rfl, rfl⟩, Config.scrollSlot.succ, ?_⟩
  have hother : Config.scrollSlot.succ ≠ 0 := Fin.succ_ne_zero _
  have hscroll : Config.programTable[Config.scrollSlot.succ] =
      { frameCount := 4, isVirtual := Config.tableIsVirtual Config.scrollSlot.succ, frameDelay := 70,
        updateHook := .horizontalShift,
        frames := Config.storedFrames Config.scrollSlot.succ (Config.tableIsVirtual Config.scrollSlot.succ) 4 } := by
    rw [programTable_getElem, Config.descriptor, if_neg hother, if_pos rfl]
  rw [hscroll]
  exact ⟨rfl, rfl, rfl⟩

theorem registerInv_reset : RegisterInv State.reset where
  tableWf := programTable_wf
  frameInRange := frameInRange_of_zero rfl
  lfsrNonzero := by decide
  stepAdmissible := admissibleStep_nil
  lockoutBounded := Nat.zero_le 30

/-- Settles O54: no word is placed, both shifts are 0, `FB` holds its reset value, and the registers and the table meet theirs. -/
theorem resetStateMeetsInvariants : Obligations.ResetStateMeetsInvariants :=
  ⟨registerInv_reset, List.forall_mem_nil _, shiftsMatchHook_of_zero rfl rfl, .inl rfl⟩

end Sys2Proof.Machine
end

section
/-! The words of `30_encoding.md`: the decoder against the encoder and the opcode table (R93, R95), a line of a trace (R107), packed
descriptors (R100 to R102). -/

namespace Sys2Proof

/-! ## Decoding and encoding agree (R95) -/

theorem decode_encode (i : Instr) : decode (encode i) = .ok i := by
  cases i with
  | scanRow y => exact (Laws.WordReadsBack.scanRow y).2
  | edge l => exact (Laws.WordReadsBack.edge l).2
  | _ => rfl

/-- A word is its opcode above its operand field (R90). -/
theorem append_fields (w : Byte) : (opcodeField w ++ operandField w : BitVec (4 + 4)) = w := by
  apply BitVec.eq_of_toNat_eq
  rw [BitVec.toNat_append, ← Nat.shiftLeft_add_eq_or_of_lt (operandField w).isLt, Nat.shiftLeft_eq, opcodeField_toNat,
    operandField_toNat]
  omega

/-- A 4-bit operand field is its high bits above its low ones (R91). -/
theorem append_extract_2_2 (f : BitVec 4) : (f.extractLsb' 2 2 ++ f.extractLsb' 0 2 : BitVec (2 + 2)) = f := by
  revert f; decide

theorem append_extract_3_1 (f : BitVec 4) : (f.extractLsb' 1 3 ++ BitVec.ofBool (f.getLsbD 0) : BitVec (3 + 1)) = f := by
  revert f; decide

/-- What a format's decoder accepts is the operand field of the operation it answers. -/
theorem operand_of_decodeZ {f : BitVec 4} {i j : Instr} (h : decodeZ f i = .ok j) : i = j ∧ f = 0#4 := by
  unfold decodeZ at h
  split at h
  · exact ⟨Decoded.ok.inj h, ‹_›⟩
  · cases h

theorem operand_of_decodeY {f : BitVec 4} {j : Instr} (h : decodeY f = .ok j) :
    ∃ y, j = .scanRow y ∧ f = (0#2 ++ y : BitVec (2 + 2)) := by
  unfold decodeY at h
  split at h
  case isTrue hzero =>
    refine ⟨_, (Decoded.ok.inj h).symm, ?_⟩
    conv_lhs => rw [← append_extract_2_2 f, hzero]
    rfl
  · cases h

theorem operand_of_decodeH {f : BitVec 4} {j : Instr} (h : decodeH f = .ok j) :
    ∃ y, j = hookInstr y ∧ f = (0#2 ++ y : BitVec (2 + 2)) := by
  unfold decodeH at h
  split at h
  case isTrue hzero =>
    refine ⟨_, (Decoded.ok.inj h).symm, ?_⟩
    conv_lhs => rw [← append_extract_2_2 f, hzero]
    rfl
  · cases h

theorem operand_of_decodeL {f : BitVec 4} {j : Instr} (h : decodeL f = .ok j) :
    ∃ l, j = .edge l ∧ f = (0#3 ++ BitVec.ofBool l : BitVec (3 + 1)) := by
  unfold decodeL at h
  split at h
  case isTrue hzero =>
    refine ⟨_, (Decoded.ok.inj h).symm, ?_⟩
    conv_lhs => rw [← append_extract_3_1 f, hzero]
    rfl
  · cases h

theorem encode_hookInstr (y : BitVec 2) : encode (hookInstr y) = (0x7#4 ++ (0#2 ++ y) : BitVec (4 + (2 + 2))) := by
  revert y; decide

theorem encode_of_decodeZ {w : Byte} {op : BitVec 4} {i j : Instr} (hop : opcodeField w = op)
    (hi : encode i = (op ++ 0#4 : BitVec (4 + 4))) (h : decodeZ (operandField w) i = .ok j) : encode j = w := by
  obtain ⟨rfl, hf⟩ := operand_of_decodeZ h
  rw [hi, ← hop, ← hf, append_fields]

/-- Format by format, the operand fields of `operand_of_decodeZ` to `operand_of_decodeL` stand below the opcode. -/
theorem encode_of_decode {w : Byte} {i : Instr} (h : decode w = .ok i) : encode i = w := by
  unfold decode at h
  split at h
  case h_1 hop =>
    obtain ⟨y, rfl, hf⟩ := operand_of_decodeY h
    rw [← append_fields w, hf, BitVec.eq_of_toNat_eq (y := 0x1#4) hop]
    rfl
  case h_7 hop =>
    obtain ⟨y, rfl, hf⟩ := operand_of_decodeH h
    rw [← append_fields w, hf, BitVec.eq_of_toNat_eq (y := 0x7#4) hop]
    exact encode_hookInstr y
  case h_11 hop =>
    obtain ⟨l, rfl, hf⟩ := operand_of_decodeL h
    rw [← append_fields w, hf, BitVec.eq_of_toNat_eq (y := 0xB#4) hop]
    rfl
  case h_14 => cases h
  case h_2 hop => exact encode_of_decodeZ (BitVec.eq_of_toNat_eq (y := 0x2#4) hop) rfl h
  case h_3 hop => exact encode_of_decodeZ (BitVec.eq_of_toNat_eq (y := 0x3#4) hop) rfl h
  case h_4 hop => exact encode_of_decodeZ (BitVec.eq_of_toNat_eq (y := 0x4#4) hop) rfl h
  case h_5 hop => exact encode_of_decodeZ (BitVec.eq_of_toNat_eq (y := 0x5#4) hop) rfl h
  case h_6 hop => exact encode_of_decodeZ (BitVec.eq_of_toNat_eq (y := 0x6#4) hop) rfl h
  case h_8 hop => exact encode_of_decodeZ (BitVec.eq_of_toNat_eq (y := 0x8#4) hop) rfl h
  case h_9 hop => exact encode_of_decodeZ (BitVec.eq_of_toNat_eq (y := 0x9#4) hop) rfl h
  case h_10 hop => exact encode_of_decodeZ (BitVec.eq_of_toNat_eq (y := 0xA#4) hop) rfl h
  case h_12 hop => exact encode_of_decodeZ (BitVec.eq_of_toNat_eq (y := 0xC#4) hop) rfl h
  case h_13 hop => exact encode_of_decodeZ (BitVec.eq_of_toNat_eq (y := 0xF#4) hop) rfl h

/-- Settles O2: every word encoded is read back, and a word decoded is the one its operation encodes to. -/
theorem decodeAndEncodeAgree : Obligations.DecodeAndEncodeAgree :=
  ⟨decode_encode, fun _ _ h => encode_of_decode h⟩

theorem decode_eq_ok_iff (w : Byte) (i : Instr) : decode w = .ok i ↔ w = encode i :=
  ⟨fun h => (encode_of_decode h).symm, fun h => h ▸ decode_encode i⟩

/-- The words of the operations are the twenty of R93. -/
theorem encode_mem_words (i : Instr) : encode i ∈
    [0x10#8, 0x11, 0x12, 0x13, 0x20, 0x30, 0x40, 0x50, 0x60, 0x70, 0x71, 0x72, 0x73, 0x80, 0x90, 0xA0, 0xB0, 0xB1, 0xC0, 0xF0] := by
  cases i with
  | scanRow y => revert y; decide
  | edge l => revert l; decide
  | _ => decide

/-- Settles O1: the twenty rows by evaluation; a word that decodes is the word of an operation, and each of those is listed. -/
theorem specWordsDecode : Obligations.SpecWordsDecode := by
  unfold Obligations.SpecWordsDecode
  refine ⟨by decide, fun w => ⟨fun ⟨i, hi⟩ => ?_, fun hw => ?_⟩⟩
  · rw [(decode_eq_ok_iff w i).1 hi]
    exact encode_mem_words i
  · simp only [List.mem_cons, List.not_mem_nil, or_false] at hw
    rcases hw with rfl | rfl | rfl | rfl | rfl | rfl | rfl | rfl | rfl | rfl | rfl | rfl | rfl | rfl | rfl | rfl | rfl | rfl
      | rfl | rfl <;> exact ⟨_, rfl⟩

end Sys2Proof

namespace Sys2Proof.Machine

/-! ## The operations with no operand in the text -/

/-- SCANROW and EDGE alone have an operand in the text (R107). -/
theorem scanRow_or_edge_or_mem_plainOps (i : Instr) : (∃ y, i = .scanRow y) ∨ (∃ l, i = .edge l) ∨ i ∈ plainOps := by
  cases i <;> simp [plainOps]

/-- The mnemonics of R93 tell the operations without an operand from one another and from the other two. -/
theorem eq_of_mnemonic_eq {i j : Instr} (hi : i ∈ plainOps) (h : mnemonic j = mnemonic i) : j = i := by
  have hnodup : (plainOps.map mnemonic).Nodup := by decide
  have hoperand : ∀ i ∈ plainOps, "SCANROW" ≠ mnemonic i ∧ "EDGE" ≠ mnemonic i := by decide
  obtain ⟨y, rfl⟩ | ⟨l, rfl⟩ | hj := scanRow_or_edge_or_mem_plainOps j
  · exact absurd h (hoperand i hi).1
  · exact absurd h (hoperand i hi).2
  · exact List.inj_on_of_nodup_map hnodup hj hi h

/-- Settles O60: the line of an operation with no operand is its mnemonic, found again in `plainOps`; the others have six lines. -/
theorem traceLinesReadBack : Obligations.TraceLinesReadBack := by
  unfold Obligations.TraceLinesReadBack
  intro i
  obtain ⟨y, rfl⟩ | ⟨l, rfl⟩ | hi := scanRow_or_edge_or_mem_plainOps i
  · revert y; decide
  · revert l; decide
  · revert i; decide

/-! ## The opcode table (R95) -/

/-- A row that applies to the words of a family of operations, which alone have its mnemonic, agrees with the decoder. -/
theorem applies_iff_of_family {α : Type} {r : OpcodeRow} {family : α → Instr}
    (hword : ∀ w, r.applies w = true ↔ ∃ a, w = encode (family a)) (hname : ∀ i, mnemonic i = r.mnemonic ↔ ∃ a, i = family a)
    (w : Byte) : r.applies w = true ↔ ∃ i, decode w = .ok i ∧ mnemonic i = r.mnemonic := by
  simp only [hword, hname, decode_eq_ok_iff]
  constructor
  · rintro ⟨a, rfl⟩
    exact ⟨family a, rfl, a, rfl⟩
  · rintro ⟨i, rfl, a, rfl⟩
    exact ⟨a, rfl⟩

theorem mnemonic_eq_scanRow_iff (i : Instr) : mnemonic i = "SCANROW" ↔ ∃ y, i = .scanRow y := by
  cases i <;> simp [mnemonic]

theorem mnemonic_eq_edge_iff (i : Instr) : mnemonic i = "EDGE" ↔ ∃ l, i = .edge l := by
  cases i <;> simp [mnemonic]

/-- The row of an operation with no operand fixes all eight bits. -/
theorem applies_fullMask_iff (name : String) (p w : Byte) : (⟨name, p, 0xFF⟩ : OpcodeRow).applies w = true ↔ w = p := by
  have hmask : w &&& 0xFF = w := BitVec.and_allOnes
  rw [OpcodeRow.applies, beq_iff_eq, hmask]

theorem opcodeRows_cases : ∀ r ∈ opcodeRows,
    r = ⟨"SCANROW", 0x10, 0xFC⟩ ∨ r = ⟨"EDGE", 0xB0, 0xFE⟩ ∨ ∃ i ∈ plainOps, r = ⟨mnemonic i, encode i, 0xFF⟩ := by
  decide

theorem applies_iff_decode {r : OpcodeRow} (hr : r ∈ opcodeRows) (w : Byte) :
    r.applies w = true ↔ ∃ i, decode w = .ok i ∧ mnemonic i = r.mnemonic := by
  obtain rfl | rfl | ⟨i, hi, rfl⟩ := opcodeRows_cases r hr
  · exact applies_iff_of_family (family := .scanRow) (by decide) mnemonic_eq_scanRow_iff w
  · exact applies_iff_of_family (family := .edge) (by decide) mnemonic_eq_edge_iff w
  · have hname (j : Instr) : mnemonic j = mnemonic i ↔ ∃ _ : Unit, j = i :=
      ⟨fun h => ⟨(), eq_of_mnemonic_eq hi h⟩, fun ⟨_, h⟩ => congrArg mnemonic h⟩
    have hword (w : Byte) : OpcodeRow.applies ⟨mnemonic i, encode i, 0xFF⟩ w = true ↔ ∃ _ : Unit, w = encode i :=
      (applies_fullMask_iff _ _ w).trans ⟨fun h => ⟨(), h⟩, fun ⟨_, h⟩ => h⟩
    exact applies_iff_of_family hword hname w

/-- Settles O3: a row applies where its operation is decoded; two rows that applied to one word would have one mnemonic. -/
theorem opcodeRowsAgreeWithDecoder : Obligations.OpcodeRowsAgreeWithDecoder := by
  unfold Obligations.OpcodeRowsAgreeWithDecoder
  refine ⟨fun r hr w => applies_iff_decode hr w, ?_⟩
  have hnames : opcodeRows.Pairwise (fun a b => a.mnemonic ≠ b.mnemonic) := by decide
  refine hnames.imp_of_mem fun {a b} ha hb hne w hboth => hne ?_
  obtain ⟨i, hi, hia⟩ := (applies_iff_decode ha w).1 hboth.1
  obtain ⟨j, hj, hjb⟩ := (applies_iff_decode hb w).1 hboth.2
  obtain rfl : i = j := Decoded.ok.inj (hi.symm.trans hj)
  exact hia.symm.trans hjb

/-! ## Packed descriptors (R100 to R102) -/

/-- Appending adds, the upper part scaled by the lower part's size. -/
theorem toNat_append_eq_add {m n : Nat} (x : BitVec m) (y : BitVec n) : (x ++ y).toNat = x.toNat * 2 ^ n + y.toNat := by
  rw [BitVec.toNat_append, ← Nat.shiftLeft_add_eq_or_of_lt y.isLt, Nat.shiftLeft_eq]

theorem extractLsb'_toNat_eq_div_mod {w : Nat} (x : BitVec w) (start len : Nat) :
    (x.extractLsb' start len).toNat = x.toNat / 2 ^ start % 2 ^ len := by
  rw [BitVec.extractLsb'_toNat, Nat.shiftRight_eq_div_pow]

theorem hookOfCode_hookCode (h : Hook) : hookOfCode (hookCode h) = h := by
  cases h <;> rfl

/-- The descriptor word of R100 as a sum of its fields. -/
theorem packDescriptor_toNat (d : Descriptor) (base : Byte) : (packDescriptor d base).toNat =
    d.frameCount.toNat + 2 ^ 7 * d.isVirtual.toNat + 2 ^ 8 * d.frameDelay.toNat + 2 ^ 16 * (hookCode d.updateHook).toNat +
      2 ^ 24 * base.toNat := by
  rw [packDescriptor]
  simp only [toNat_append_eq_add, BitVec.toNat_ofBool, BitVec.toNat_ofNat]
  omega

section PackedFields

variable (d : Descriptor) (base : Byte)

theorem packDescriptor_frameCount : (packDescriptor d base).extractLsb' 0 7 = d.frameCount := by
  apply BitVec.eq_of_toNat_eq
  rw [extractLsb'_toNat_eq_div_mod, packDescriptor_toNat]
  omega

theorem packDescriptor_isVirtual : (packDescriptor d base).getLsbD 7 = d.isVirtual := by
  have hcount := d.frameCount.isLt
  have hbit : (packDescriptor d base).toNat / 2 ^ 7 % 2 = d.isVirtual.toNat := by
    have hvirtual := Bool.toNat_lt d.isVirtual
    rw [packDescriptor_toNat]
    omega
  rw [BitVec.getLsbD, Nat.testBit_eq_decide_div_mod_eq, hbit]
  cases d.isVirtual <;> rfl

theorem packDescriptor_frameDelay : (packDescriptor d base).extractLsb' 8 8 = d.frameDelay := by
  have hvirtual := Bool.toNat_lt d.isVirtual
  apply BitVec.eq_of_toNat_eq
  rw [extractLsb'_toNat_eq_div_mod, packDescriptor_toNat]
  omega

theorem packDescriptor_hookCode : (packDescriptor d base).extractLsb' 16 2 = hookCode d.updateHook := by
  have hvirtual := Bool.toNat_lt d.isVirtual
  apply BitVec.eq_of_toNat_eq
  rw [extractLsb'_toNat_eq_div_mod, packDescriptor_toNat]
  omega

theorem packDescriptor_reserved : (packDescriptor d base).extractLsb' 18 6 = 0 := by
  have hvirtual := Bool.toNat_lt d.isVirtual
  apply BitVec.eq_of_toNat_eq
  rw [extractLsb'_toNat_eq_div_mod, packDescriptor_toNat]
  change _ = 0
  omega

theorem packDescriptor_frameBase : (packDescriptor d base).extractLsb' 24 8 = base := by
  have hvirtual := Bool.toNat_lt d.isVirtual
  apply BitVec.eq_of_toNat_eq
  rw [extractLsb'_toNat_eq_div_mod, packDescriptor_toNat]
  omega

/-- A well-formed descriptor stores as many frames as its word says (R64 b, R102). -/
theorem storedCount_packDescriptor (hd : d.wf = true) : storedCount (packDescriptor d base) = d.frames.length := by
  rw [storedCount, packDescriptor_isVirtual, packDescriptor_frameCount, (Descriptor.wf_iff d).1 hd]

end PackedFields

theorem mapM_eq_some_map {α β : Type} {g : α → Option β} {f : α → β} {l : List α} (h : ∀ a ∈ l, g a = some (f a)) :
    l.mapM g = some (l.map f) := by
  induction l with
  | nil => rfl
  | cons a l ih =>
    rw [List.mapM_cons, h a List.mem_cons_self, ih fun b hb => h b (List.mem_cons_of_mem a hb)]
    rfl

/-- Looking up the positions of a list in order gives the list. -/
theorem mapM_range_eq_some {fs frames : List Frame} {base : Nat}
    (h : ∀ j < frames.length, fs[base + j]? = frames[j]?) :
    ((List.range frames.length).mapM fun j => fs[base + j]?) = some frames := by
  have hlookup : ∀ j ∈ List.range frames.length, fs[base + j]? = some (frames.getD j 0) := by
    intro j hj
    have hj := List.mem_range.1 hj
    rw [h j hj, List.getElem?_eq_getElem hj, List.getD_eq_getElem _ _ hj]
  have hmap : (List.range frames.length).map (fun j => frames.getD j 0) = frames :=
    List.ext_getElem (by simp) fun j _ hj => by simp [hj]
  rw [mapM_eq_some_map hlookup, hmap]

theorem unpackFrames_packDescriptor {d : Descriptor} {base : Byte} {fs : List Frame} (hd : d.wf = true)
    (hbound : base.toNat + d.frames.length ≤ 256) (hstore : ∀ j < d.frames.length, fs[base.toNat + j]? = d.frames[j]?) :
    unpackFrames fs (packDescriptor d base) = some d.frames := by
  unfold unpackFrames
  simp only [storedCount_packDescriptor d base hd, packDescriptor_frameBase, hbound, if_true]
  exact mapM_range_eq_some hstore

theorem unpackDescriptor_packDescriptor {d : Descriptor} {base : Byte} {fs : List Frame} (hd : d.wf = true)
    (hbound : base.toNat + d.frames.length ≤ 256) (hstore : ∀ j < d.frames.length, fs[base.toNat + j]? = d.frames[j]?) :
    unpackDescriptor fs (packDescriptor d base) = some d := by
  rw [unpackDescriptor, if_pos (packDescriptor_reserved d base), unpackFrames_packDescriptor hd hbound hstore,
    packDescriptor_frameCount, packDescriptor_isVirtual, packDescriptor_frameDelay, packDescriptor_hookCode,
    hookOfCode_hookCode]
  rfl

theorem unpackDescriptor_of_reserved_bit {dw : BitVec 32} {b : Nat} (fs : List Frame) (hb : 18 ≤ b ∧ b ≤ 23)
    (hbit : dw.getLsbD b = true) : unpackDescriptor fs dw = none := by
  refine if_neg fun hzero => ?_
  have hfield : (dw.extractLsb' 18 6).getLsbD (b - 18) = dw.getLsbD b := by
    have hlt : b - 18 < 6 := by omega
    rw [BitVec.getLsbD_extractLsb', decide_eq_true hlt, Bool.true_and, Nat.add_sub_of_le hb.1]
  rw [hzero, hbit] at hfield
  simp at hfield

theorem unpackDescriptor_of_index_too_high {dw : BitVec 32} (fs : List Frame)
    (h : 256 < (dw.extractLsb' 24 8).toNat + storedCount dw) : unpackDescriptor fs dw = none := by
  have hframes : unpackFrames fs dw = none := if_neg (Nat.not_le.2 h)
  rw [unpackDescriptor, hframes, Option.map_none, ite_self]

/-- Settles O58: the places of the fields by `packDescriptor_toNat`, the round trip field by field, and the two ways to be malformed. -/
theorem packedDescriptorsUnpack : Obligations.PackedDescriptorsUnpack := by
  unfold Obligations.PackedDescriptorsUnpack
  refine ⟨fun d base => ?_, fun d base fs hd hbound hstore => unpackDescriptor_packDescriptor hd hbound hstore,
    fun dw fs ⟨b, hlow, hhigh, hbit⟩ => unpackDescriptor_of_reserved_bit fs ⟨hlow, hhigh⟩ hbit, fun dw fs h => ?_⟩
  · rw [packDescriptor_toNat]
    cases d.isVirtual <;> cases d.updateHook <;> rfl
  · apply unpackDescriptor_of_index_too_high fs
    have hbase : (dw.extractLsb' 24 8).toNat = dw.toNat / 2 ^ 24 := by
      rw [extractLsb'_toNat_eq_div_mod]
      omega
    have hcount : storedCount dw = if dw.getLsbD 7 then 1 else dw.toNat % 128 := by
      rw [storedCount, extractLsb'_toNat_eq_div_mod, Nat.pow_zero, Nat.div_one]
      rfl
    rwa [hbase, hcount]

end Sys2Proof.Machine
end

section
/-! The transform unit's properties (`41_transform_unit.md` R157) and the refresh pass under edge events (`44_scan_multiplexer.md` R220,
`45_main_sequencer.md` R233). -/

namespace Sys2Proof.Machine

/-! ## Transforms compose -/

/-- Two transforms are one, with the shifts added modulo 4 (R157 (d)). -/
theorem xform_xform (src : Frame) (a b c d : BitVec 2) : xform (xform src a b) c d = xform src (a + c) (b + d) :=
  frame_ext_rows fun y => by rw [rowOf_xform, rowOf_xform, rowOf_xform, rotl4_rotl4, add_assoc, add_comm d b]

theorem ofNat_add_mod_four (a c : BitVec 2) : BitVec.ofNat 2 ((a.toNat + c.toNat) % 4) = a + c :=
  BitVec.eq_of_toNat_eq (by rw [BitVec.toNat_add, BitVec.toNat_ofNat]; exact Nat.mod_mod _ _)

/-- The opposite shift of R157 (b), (c). -/
theorem ofNat_four_sub_mod_four (k : BitVec 2) : BitVec.ofNat 2 ((4 - k.toNat) % 4) = -k := by
  revert k; decide

/-- Settles O13: the identity is `xform_zero`, and the round trips are compositions with the opposite shift. -/
theorem transformsCompose : Obligations.TransformsCompose := by
  unfold Obligations.TransformsCompose
  refine ⟨xform_zero, fun src k => ?_, fun src k => ?_, fun src a b c d => ?_⟩
  · rw [ofNat_four_sub_mod_four, xform_xform, add_neg_cancel, add_zero, xform_zero]
  · rw [ofNat_four_sub_mod_four, xform_xform, add_neg_cancel, add_zero, xform_zero]
  · rw [ofNat_add_mod_four, ofNat_add_mod_four, xform_xform]

/-! ## The transform preserves the number of set bits -/

/-- The number of set bits of a row. -/
def rowBitCount (row : Nibble) : Nat := ((List.range 4).filter row.getLsbD).length

theorem rowBitCount_rotl4 (row : Nibble) (k : BitVec 2) : rowBitCount (rotl4 row k) = rowBitCount row := by
  revert row k; decide

/-- The set bits of a frame within one row are those of the row. -/
theorem length_filter_row (f : Frame) (y : BitVec 2) :
    (((List.range 4).map (4 * y.toNat + ·)).filter f.getLsbD).length = rowBitCount (rowOf f y) := by
  rw [List.filter_map, List.length_map, rowBitCount]
  congr 1
  exact List.filter_congr fun c hc => (rowOf_bit f y c (List.mem_range.1 hc)).symm

/-- The set bits of a frame, row by row. -/
theorem frameBitCount_eq_rows (f : Frame) : ((List.range 16).filter f.getLsbD).length =
    rowBitCount (rowOf f 0) + rowBitCount (rowOf f 1) + rowBitCount (rowOf f 2) + rowBitCount (rowOf f 3) := by
  have hrange : List.range 16 = (List.range 4).map (4 * (0 : BitVec 2).toNat + ·) ++ (List.range 4).map (4 * (1 : BitVec 2).toNat + ·)
      ++ (List.range 4).map (4 * (2 : BitVec 2).toNat + ·) ++ (List.range 4).map (4 * (3 : BitVec 2).toNat + ·) := by decide
  rw [hrange]
  simp only [List.filter_append, List.length_append, length_filter_row]

/-- Shifting the row numbers permutes the four rows. -/
theorem sum_rows_add (g : BitVec 2 → Nat) (ys : BitVec 2) :
    g (0 + ys) + g (1 + ys) + g (2 + ys) + g (3 + ys) = g 0 + g 1 + g 2 + g 3 := by
  have hys : ys = 0 ∨ ys = 1 ∨ ys = 2 ∨ ys = 3 := by revert ys; decide
  rcases hys with rfl | rfl | rfl | rfl <;> simp <;> omega

/-- Settles O14: the transform permutes the rows and rotates each, and a rotation keeps a row's count. -/
theorem transformKeepsBitCount : Obligations.TransformKeepsBitCount := by
  unfold Obligations.TransformKeepsBitCount
  intro src xs ys
  rw [frameBitCount_eq_rows, frameBitCount_eq_rows]
  simp only [rowOf_xform, rowBitCount_rotl4]
  exact sum_rows_add (fun y => rowBitCount (rowOf src y)) ys

/-- Settles O16: RENDER takes the free frame that `frameRead` gives outside the stored ones. -/
theorem renderOfMissingFrameLeavesFreeValue : Obligations.RenderOfMissingFrameLeavesFreeValue := by
  unfold Obligations.RenderOfMissingFrameLeavesFreeValue
  exact fun s _ => ⟨sourceFrame s, exec_render s⟩

/-! ## Edge events among the rows of a pass -/

/-- The notifications of a list, handled one after the other. -/
def handleEdges (ls : List Bool) (s : State) : State := ls.foldl (fun t l => handleEdge l t) s

theorem execAll_edges (ls : List Bool) (s : State) : execAll (ls.map .edge) s = .next (handleEdges ls s) := by
  induction ls generalizing s with
  | nil => rfl
  | cons l ls ih => rw [List.map_cons, execAll_cons_of_next (exec_edge l s), ih]; rfl

/-- No notification touches what a row shows, the phase or `OUT` (R37, R70). -/
theorem handleEdges_keeps (ls : List Bool) (s : State) :
    (handleEdges ls s).fb = s.fb ∧ (handleEdges ls s).seq = s.seq ∧ (handleEdges ls s).out = s.out := by
  induction ls generalizing s with
  | nil => exact ⟨rfl, rfl, rfl⟩
  | cons l ls ih => simpa [handleEdges] using ih (handleEdge l s)

theorem exec_scanRow_of_phase {y : BitVec 2} {s : State} (h : s.seq = phaseOfRow y) :
    exec (.scanRow y) s = .next (effect (.scanRow y) s) := by
  rw [exec_scanRow, admitAt_eq_next _ _ _ h]

/-- The state `t` of a pass begun in `s`: `FB` as it was, the phase `k`, and the bytes sent so far. -/
def PassShows (s t : State) (k : Fin 6) (sent : List Byte) : Prop := t.fb = s.fb ∧ t.seq = k ∧ t.out = s.out ++ sent

/-- One row of a pass and the edge events after it: its drive word is that of the `FB` the pass began with. -/
theorem PassShows.row {is : List Instr} {s t : State} {y : BitVec 2} {sent : List Byte} (hrun : execAll is s = .next t)
    (h : PassShows s t (phaseOfRow y) sent) (ls : List Bool) :
    ∃ u, execAll (is ++ [.scanRow y] ++ ls.map .edge) s = .next u ∧
      PassShows s u (phaseAfterRow y) (sent ++ [driveWord s.fb y]) := by
  obtain ⟨hfb, hseq, hout⟩ := h
  have hexec := exec_scanRow_of_phase hseq
  obtain ⟨hfb', hseq', hout'⟩ := handleEdges_keeps ls (effect (.scanRow y) t)
  refine ⟨handleEdges ls (effect (.scanRow y) t), ?_, hfb'.trans hfb, hseq', ?_⟩
  · rw [List.append_assoc, execAll_append hrun, List.singleton_append, execAll_cons_of_next hexec, execAll_edges]
  · rw [hout', effect_scanRow, hout, hfb, List.append_assoc]

/-- Settles O10: `PassShows.row` once for each row; the four bytes are `passWords`. -/
theorem passShowsOnePicture : Obligations.PassShowsOnePicture := by
  unfold Obligations.PassShowsOnePicture
  intro s e0 e1 e2 e3 e4 hseq
  obtain ⟨hfb, hseq0, hout⟩ := handleEdges_keeps e0 s
  have hstart : PassShows s (handleEdges e0 s) (phaseOfRow 0) [] := ⟨hfb, hseq0.trans hseq, by rw [hout, List.append_nil]⟩
  obtain ⟨t1, hrun1, h1⟩ := hstart.row (execAll_edges e0 s) e1
  obtain ⟨t2, hrun2, h2⟩ := PassShows.row (y := 1) hrun1 h1 e2
  obtain ⟨t3, hrun3, h3⟩ := PassShows.row (y := 2) hrun2 h2 e3
  obtain ⟨t4, hrun4, hfb4, hseq4, hout4⟩ := PassShows.row (y := 3) hrun3 h3 e4
  exact ⟨t4, hrun4, by rw [← passWords_eq]; exact hout4, hfb4, hseq4⟩

/-! ## An edge event and a row commute -/

theorem execAll_cons_of_refused {i : Instr} {rest : List Instr} {s : State} {r : Refusal} (h : exec i s = .refused r) :
    execAll (i :: rest) s = .refused r := by
  simp [execAll, h]

/-- The handler's work does not depend on `OUT` or the phase, and leaves `FB` (R233). -/
theorem handleEdge_effect_scanRow (l : Bool) (y : BitVec 2) (s : State) :
    handleEdge l (effect (.scanRow y) s) = effect (.scanRow y) (handleEdge l s) := by
  by_cases hopen : s.debounceCountdown = 0
  · have hopen' : (effect (.scanRow y) s).debounceCountdown = 0 := hopen
    rw [handleEdge_open hopen, handleEdge_open hopen', effect_scanRow]
    split <;> rfl
  · rw [handleEdge_locked hopen, handleEdge_locked (by simpa [effect] using hopen)]

/-- Settles O45: in its phase the row commutes with the handler; in another it is refused before the event and after it. -/
theorem edgeCommutesWithScanRow : Obligations.EdgeCommutesWithScanRow := by
  unfold Obligations.EdgeCommutesWithScanRow
  intro s y l
  rw [execAll_cons_of_next (exec_edge l s)]
  by_cases hseq : s.seq = phaseOfRow y
  · rw [execAll_cons_of_next (exec_scanRow_of_phase ((handleEdge_seq l s).trans hseq)),
      execAll_cons_of_next (exec_scanRow_of_phase hseq), execAll_cons_of_next (exec_edge l _), handleEdge_effect_scanRow]
  · rw [execAll_cons_of_refused (exec_of_other_phase rfl (by rwa [handleEdge_seq])),
      execAll_cons_of_refused (exec_of_other_phase rfl hseq)]

end Sys2Proof.Machine
end

section
/-! The step function of the LFSR (`40_lfsr_update_generator.md` R131 to R133): the default, its inverse and its period, and any other put in
force (R8, R34). -/

namespace Sys2Proof.Machine

/-! ## LFSRSTEP -/

theorem exec_lfsrStep (s : State) : exec .lfsrStep s = .next (stepLfsr s) := rfl

theorem lfsrStep_of_odd {v : LfsrWord} (h : v.getLsbD 0 = true) : lfsrStep v = (v >>> 1) ^^^ Config.lfsrMask := by
  rw [lfsrStep, h]; rfl

theorem lfsrStep_of_even {v : LfsrWord} (h : v.getLsbD 0 = false) : lfsrStep v = v >>> 1 := by
  rw [lfsrStep, h]; rfl

/-- The default on numbers: halve, and exclusive-or the mask in if the value was odd (R131). -/
theorem lfsrStep_toNat (v : LfsrWord) :
    (lfsrStep v).toNat = if v.toNat % 2 = 1 then (v.toNat / 2) ^^^ 0xB400 else v.toNat / 2 := by
  have hhalf : (v >>> 1).toNat = v.toNat / 2 := by rw [BitVec.toNat_ushiftRight, Nat.shiftRight_one]
  have hodd : v.getLsbD 0 = decide (v.toNat % 2 = 1) := by rw [BitVec.getLsbD, Nat.testBit_zero]
  by_cases h : v.toNat % 2 = 1
  · rw [if_pos h, lfsrStep_of_odd (by rw [hodd, decide_eq_true h]), BitVec.toNat_xor, hhalf]
    rfl
  · rw [if_neg h, lfsrStep_of_even (by rw [hodd, decide_eq_false h]), hhalf]

/-- Settles O17: the step function in force is the default of `lfsrStep_toNat`, or the successor listed. -/
theorem lfsrStepIsGaloisRight : Obligations.LfsrStepIsGaloisRight := by
  unfold Obligations.LfsrStepIsGaloisRight
  refine ⟨rfl, rfl, fun s => ⟨lfsrStepBy s.lfsrOverrides s.lfsr, exec_lfsrStep s, fun h => ?_, fun w h => ?_⟩⟩
  · rw [lfsrStepBy, h, Option.getD_none, lfsrStep_toNat]
  · rw [lfsrStepBy, h, Option.getD_some]

/-! ## Any step function can be chosen -/

theorem lfsrStepBy_chooseLfsrStep (f : LfsrWord → LfsrWord) (s : State) : lfsrStepBy (chooseLfsrStep f s).lfsrOverrides = f :=
  funext fun v => lfsrStepBy_overridesOf f v

/-- A draw of the chosen step function (R134). -/
theorem drawLfsr_chooseLfsrStep (f : LfsrWord → LfsrWord) (s : State) :
    (drawLfsr (chooseLfsrStep f s)).lfsr = f^[4] s.lfsr := by
  rw [drawLfsr_lfsr, lfsrStepBy_chooseLfsrStep]
  rfl

/-- A fire of a Starfield program in phase 0 draws (R135, R171). -/
theorem fire_lfsr_of_star_zero {s : State} (hhook : (selected s).updateHook = .starfield) (h0 : s.starPhase = 0) :
    (fire s).lfsr = (drawLfsr s).lfsr := by
  have hphase : (advanceFrame (renderIfAny (selected s) s)).starPhase = 0 := by simpa using h0
  simp [fire, hhook, runHook, starHook_of_phase_zero hphase]

/-- Settles O18: each of the four operations steps by the function in force, which is the one chosen. -/
theorem anyStepFunctionCanBeChosen : Obligations.AnyStepFunctionCanBeChosen := by
  unfold Obligations.AnyStepFunctionCanBeChosen
  intro f s
  refine ⟨?_, ?_, fun h0 => ?_, fun hseq hw hhook h0 => ?_⟩
  · rw [exec_lfsrStep, stepLfsr, lfsrStepBy_chooseLfsrStep]
    rfl
  · rw [exec_lfsrDraw, drawLfsr_writes, drawLfsr_chooseLfsrStep]
  · refine ⟨_, exec_hookStar _, ?_⟩
    rw [starHook_of_phase_zero (s := chooseLfsrStep f s) h0]
    exact drawLfsr_chooseLfsrStep f s
  · refine ⟨_, admitAt_eq_next 5 _ _ hseq, ?_⟩
    rw [setSeq_lfsr, schedule_of_fire (s := chooseLfsrStep f s) hw]
    exact (fire_lfsr_of_star_zero (s := chooseLfsrStep f s) hhook h0).trans (drawLfsr_chooseLfsrStep f s)

/-! ## The default is a bijection that fixes 0 alone -/

/-- Bit 15 of the successor is the bit shifted out: the mask has bit 15 set, and the shift clears it (R131). -/
theorem lfsrStep_bit_15 (v : LfsrWord) : (lfsrStep v).getLsbD 15 = v.getLsbD 0 := by
  cases h : v.getLsbD 0 with
  | true =>
    rw [lfsrStep_of_odd h]
    simp [Config.lfsrMask]
  | false =>
    rw [lfsrStep_of_even h]
    simp

/-- A word is its halves and its lowest bit. -/
theorem eq_of_shiftRight_one_eq {v w : LfsrWord} (hbit : v.getLsbD 0 = w.getLsbD 0) (hhalf : v >>> 1 = w >>> 1) : v = w := by
  have hhalf := congrArg BitVec.toNat hhalf
  simp only [BitVec.toNat_ushiftRight, Nat.shiftRight_one] at hhalf
  simp only [BitVec.getLsbD, Nat.testBit_zero, decide_eq_decide] at hbit
  apply BitVec.eq_of_toNat_eq
  omega

/-- The step function is injective: the successor tells the bit shifted out, and with it the rest (R133, R293). -/
theorem lfsrStep_injective : Function.Injective lfsrStep := by
  intro v w h
  have hbit : v.getLsbD 0 = w.getLsbD 0 := by rw [← lfsrStep_bit_15 v, h, lfsrStep_bit_15]
  refine eq_of_shiftRight_one_eq hbit ?_
  cases hw : w.getLsbD 0 with
  | true =>
    rw [lfsrStep_of_odd (hbit.trans hw), lfsrStep_of_odd hw] at h
    exact (BitVec.xor_left_inj _).1 h
  | false => rwa [lfsrStep_of_even (hbit.trans hw), lfsrStep_of_even hw] at h

/-- Settles O19: 0 steps to 0, and by `lfsrStep_ne_zero` nothing else does. -/
theorem lfsrStepFixesOnlyZero : Obligations.LfsrStepFixesOnlyZero := by
  unfold Obligations.LfsrStepFixesOnlyZero
  refine ⟨fun v => ⟨fun h => ?_, ?_⟩, fun v w h => lfsrStep_injective h⟩
  · by_contra hv
    exact lfsrStep_ne_zero hv h
  · rintro rfl
    rfl

/-- Settles O20, by evaluation of the 24 steps. -/
theorem lfsrFirstValues : Obligations.LfsrFirstValues := by
  unfold Obligations.LfsrFirstValues
  decide

end Sys2Proof.Machine
end

section
/-! The period of the LFSR (`40_lfsr_update_generator.md` R133 (c)). The step function is linear over exclusive-or, so a power of it is
computed by repeated squaring of its 16 columns; a period of 65535 that no prime factor can be taken from is the least. -/

namespace Sys2Proof.Machine

/-! ## Powers of a linear map of words -/

/-- The exclusive-or of the columns at which `v` has a bit set: a linear map of words, by its values on the single bits. -/
def applyColumns : List LfsrWord → LfsrWord → LfsrWord
  | [], _ => 0
  | c :: cs, v => (if v.getLsbD 0 then c else 0) ^^^ applyColumns cs (v >>> 1)

theorem applyColumns_xor (cs : List LfsrWord) (v w : LfsrWord) :
    applyColumns cs (v ^^^ w) = applyColumns cs v ^^^ applyColumns cs w := by
  induction cs generalizing v w with
  | nil => exact (BitVec.xor_self).symm
  | cons c cs ih =>
    have hbit : (if (v ^^^ w).getLsbD 0 then c else 0) = (if v.getLsbD 0 then c else 0) ^^^ (if w.getLsbD 0 then c else 0) := by
      rw [BitVec.getLsbD_xor]
      cases v.getLsbD 0 <;> cases w.getLsbD 0 <;> simp
    rw [applyColumns, hbit, BitVec.ushiftRight_xor_distrib, ih]
    simp only [applyColumns]
    ac_rfl

theorem applyColumns_zero (cs : List LfsrWord) : applyColumns cs 0 = 0 := by
  induction cs with
  | nil => rfl
  | cons c cs ih => exact (congrArg ((0 : LfsrWord) ^^^ ·) ih).trans rfl

/-- Mapping the columns composes the maps. -/
theorem applyColumns_map (m cs : List LfsrWord) (v : LfsrWord) :
    applyColumns (cs.map (applyColumns m)) v = applyColumns m (applyColumns cs v) := by
  induction cs generalizing v with
  | nil => exact (applyColumns_zero m).symm
  | cons c cs ih =>
    rw [List.map_cons, applyColumns, ih, applyColumns, applyColumns_xor]
    congr 1
    split
    · rfl
    · exact (applyColumns_zero m).symm

/-- `n` times the map of the columns `m`, by repeated squaring; `bits` bounds the binary digits of `n`. -/
def iterateColumns : (bits : Nat) → List LfsrWord → Nat → LfsrWord → LfsrWord
  | 0, _, _, v => v
  | bits + 1, m, n, v => iterateColumns bits (m.map (applyColumns m)) (n / 2) (if n % 2 = 1 then applyColumns m v else v)

theorem iterateColumns_eq_iterate {bits n : Nat} (m : List LfsrWord) (hn : n < 2 ^ bits) (v : LfsrWord) :
    iterateColumns bits m n v = (applyColumns m)^[n] v := by
  induction bits generalizing m n v with
  | zero =>
    obtain rfl : n = 0 := by simpa using hn
    rfl
  | succ bits ih =>
    have hsquare : applyColumns (m.map (applyColumns m)) = (applyColumns m)^[2] := funext (applyColumns_map m m)
    have hdigit : (if n % 2 = 1 then applyColumns m v else v) = (applyColumns m)^[n % 2] v := by
      rcases Nat.mod_two_eq_zero_or_one n with h | h <;> rw [h] <;> rfl
    rw [iterateColumns, ih _ (by rw [pow_succ] at hn; omega), hsquare, hdigit, ← Function.iterate_mul,
      ← Function.iterate_add_apply, Nat.div_add_mod]


/-- A bit `k` and what stands above it, put together. -/
theorem bit_xor_shiftLeft (v : LfsrWord) (k : Nat) :
    (if v.getLsbD 0 then 1#16 <<< k else 0) ^^^ (v >>> 1) <<< (k + 1) = v <<< k := by
  apply BitVec.eq_of_getLsbD_eq
  intro i hi
  have hbit : (if v.getLsbD 0 then 1#16 <<< k else 0).getLsbD i = (v.getLsbD 0 && decide (i = k)) := by
    cases v.getLsbD 0
    · simp
    · rw [if_pos rfl, BitVec.getLsbD_shiftLeft, BitVec.getLsbD_one, Bool.eq_iff_iff]
      simp only [Bool.and_eq_true, Bool.not_eq_true', decide_eq_true_eq, decide_eq_false_iff_not, Bool.true_and]
      omega
  rw [BitVec.getLsbD_xor, hbit]
  simp only [BitVec.getLsbD_shiftLeft, BitVec.getLsbD_ushiftRight, hi, decide_true, Bool.true_and]
  rcases Nat.lt_trichotomy i k with h | rfl | h
  · have h1 : i < k + 1 := by omega
    have h2 : i ≠ k := by omega
    simp [h, h1, h2]
  · simp
  · have h1 : ¬ i < k + 1 := by omega
    have h2 : i ≠ k := by omega
    have h3 : 1 + (i - (k + 1)) = i - k := by omega
    have h4 : ¬ i < k := by omega
    simp [h1, h2, h3, h4]

/-- A word is the exclusive-or of the single bits it has set, `k` places up. -/
theorem applyColumns_bits (n k : Nat) (v : LfsrWord) (hv : v.toNat < 2 ^ n) :
    applyColumns ((List.range' k n).map (1#16 <<< ·)) v = v <<< k := by
  induction n generalizing k v with
  | zero =>
    obtain rfl : v = 0 := BitVec.eq_of_toNat_eq (by simpa using hv)
    exact (BitVec.zero_shiftLeft k).symm
  | succ n ih =>
    have hhalf : (v >>> 1).toNat < 2 ^ n := by
      rw [BitVec.toNat_ushiftRight, Nat.shiftRight_one]
      rw [pow_succ] at hv
      omega
    rw [List.range'_succ, List.map_cons, applyColumns, ih _ _ hhalf, bit_xor_shiftLeft]

/-- The default step function by its columns: bit 0 gives the mask, every other bit moves one place down. -/
def lfsrColumns : List LfsrWord := Config.lfsrMask :: (List.range' 0 15).map (1#16 <<< ·)

theorem applyColumns_lfsrColumns (v : LfsrWord) : applyColumns lfsrColumns v = lfsrStep v := by
  have hhalf : (v >>> 1).toNat < 2 ^ 15 := by
    rw [BitVec.toNat_ushiftRight, Nat.shiftRight_one]
    omega
  rw [lfsrColumns, applyColumns, applyColumns_bits 15 0 _ hhalf, BitVec.shiftLeft_zero, BitVec.xor_comm]
  cases h : v.getLsbD 0 with
  | true => exact (lfsrStep_of_odd h).symm
  | false => rw [lfsrStep_of_even h]; exact BitVec.xor_zero

theorem lfsrStep_iterate {n : Nat} (hn : n < 2 ^ 15) (v : LfsrWord) : lfsrStep^[n] v = iterateColumns 15 lfsrColumns n v := by
  rw [iterateColumns_eq_iterate _ hn, funext applyColumns_lfsrColumns]

/-! ## The period of the seed -/

/-- A third of the period three times over: 21845 steps from the seed, from the value they lead to, and from the next (R133 (c)). -/
theorem isPeriodicPt_seed : Function.IsPeriodicPt lfsrStep 65535 Config.lfsrSeed := by
  have hfirst : iterateColumns 15 lfsrColumns 21845 Config.lfsrSeed = 0x7996 := by decide
  have hsecond : iterateColumns 15 lfsrColumns 21845 0x7996 = 0xB368 := by decide
  have hthird : iterateColumns 15 lfsrColumns 21845 0xB368 = Config.lfsrSeed := by decide
  have hbound : 21845 < 2 ^ 15 := by decide
  calc lfsrStep^[21845 + (21845 + 21845)] Config.lfsrSeed
      = lfsrStep^[21845] (lfsrStep^[21845] (lfsrStep^[21845] Config.lfsrSeed)) := by
        rw [Function.iterate_add_apply, Function.iterate_add_apply]
    _ = Config.lfsrSeed := by simp only [lfsrStep_iterate hbound, hfirst, hsecond, hthird]

theorem not_isPeriodicPt_seed {p : Nat} (hp : p ∈ [3, 5, 17, 257]) :
    ¬ Function.IsPeriodicPt lfsrStep (65535 / p) Config.lfsrSeed := by
  have hreturn : ∀ p ∈ [3, 5, 17, 257], iterateColumns 15 lfsrColumns (65535 / p) Config.lfsrSeed ≠ Config.lfsrSeed := by
    decide
  have hbound : ∀ p ∈ [3, 5, 17, 257], 65535 / p < 2 ^ 15 := by decide
  rw [Function.IsPeriodicPt, Function.IsFixedPt, lfsrStep_iterate (hbound p hp)]
  exact hreturn p hp

/-- A period that no prime factor can be taken from is the least one. -/
theorem minimalPeriod_eq_of_prime_factors {α : Type} {f : α → α} {x : α} {n : Nat}
    (h : Function.IsPeriodicPt f n x) (hprime : ∀ p, p.Prime → p ∣ n → ¬ Function.IsPeriodicPt f (n / p) x) :
    Function.minimalPeriod f x = n := by
  obtain ⟨k, hk⟩ := h.minimalPeriod_dvd
  suffices hone : k = 1 by rw [hk, hone, mul_one]
  by_contra hone
  obtain ⟨m, hm⟩ := k.minFac_dvd
  have hp := Nat.minFac_prime hone
  refine hprime k.minFac hp (hk ▸ (k.minFac_dvd).mul_left _) ?_
  have hquotient : n / k.minFac = Function.minimalPeriod f x * m := by
    apply Nat.div_eq_of_eq_mul_right hp.pos
    calc n = Function.minimalPeriod f x * (k.minFac * m) := by rw [← hm]; exact hk
      _ = k.minFac * (Function.minimalPeriod f x * m) := by ring
  rw [hquotient, Function.isPeriodicPt_iff_minimalPeriod_dvd]
  exact dvd_mul_right _ _

theorem mem_of_prime_dvd_period {p : Nat} (hp : p.Prime) (h : p ∣ 65535) : p ∈ [3, 5, 17, 257] := by
  have hfactors : Nat.primeFactorsList 65535 = [3, 5, 17, 257] := by simp
  rw [← hfactors]
  exact (Nat.mem_primeFactorsList (by decide)).2 ⟨hp, h⟩

theorem minimalPeriod_seed : Function.minimalPeriod lfsrStep Config.lfsrSeed = 65535 :=
  minimalPeriod_eq_of_prime_factors isPeriodicPt_seed fun _ hp hdvd =>
    not_isPeriodicPt_seed (mem_of_prime_dvd_period hp hdvd)

theorem lfsrStep_iterate_ne_zero (n : Nat) : lfsrStep^[n] Config.lfsrSeed ≠ 0 :=
  admissibleStep_nil.iterate_ne_zero (by decide) n

/-- The 65535 values before the return are distinct and not 0, so they are all the values that are not 0. -/
theorem image_iterate_seed :
    (Finset.range 65535).image (fun n => lfsrStep^[n] Config.lfsrSeed) = Finset.univ.erase (0 : LfsrWord) := by
  have hinj : Set.InjOn (fun n => lfsrStep^[n] Config.lfsrSeed) (Finset.range 65535) := by
    rw [Finset.coe_range, ← minimalPeriod_seed]
    exact Function.iterate_injOn_Iio_minimalPeriod
  have hcard : Fintype.card LfsrWord = 65536 := by
    rw [Fintype.card_congr BitVec.equivFin.toEquiv, Fintype.card_fin]
    rfl
  apply Finset.eq_of_subset_of_card_le
  · intro v hv
    obtain ⟨n, -, rfl⟩ := Finset.mem_image.1 hv
    exact Finset.mem_erase.2 ⟨lfsrStep_iterate_ne_zero n, Finset.mem_univ _⟩
  · rw [Finset.card_image_of_injOn hinj, Finset.card_range, Finset.card_erase_of_mem (Finset.mem_univ _), Finset.card_univ,
      hcard]

/-- Settles O21: 65535 is the least period of the seed, and the values on the way are every one but 0. -/
theorem lfsrPeriodIsMaximal : Obligations.LfsrPeriodIsMaximal := by
  unfold Obligations.LfsrPeriodIsMaximal
  refine ⟨isPeriodicPt_seed, fun n hpos hlt => ?_, fun v hv => ?_⟩
  · exact Function.not_isPeriodicPt_of_pos_of_lt_minimalPeriod hpos.ne' (by rwa [minimalPeriod_seed])
  · have hmem : v ∈ (Finset.range 65535).image (fun n => lfsrStep^[n] Config.lfsrSeed) := by
      rw [image_iterate_seed]
      exact Finset.mem_erase.2 ⟨hv, Finset.mem_univ v⟩
    obtain ⟨n, hn, heq⟩ := Finset.mem_image.1 hmem
    exact ⟨n, Finset.mem_range.1 hn, heq⟩

end Sys2Proof.Machine
end

section
/-! A fire register by register (`42_scheduler.md` R171 to R186, `40_lfsr_update_generator.md` R137), and what a switch and a press lead to
(`42_scheduler.md` R191, `43_input_debouncer.md` R205, R206, R209). -/

namespace Sys2Proof.Machine

/-- Settles O28: at 0 the count draws a free value. -/
theorem waitDecAtZeroLeavesFreeValue : Obligations.WaitDecAtZeroLeavesFreeValue := by
  unfold Obligations.WaitDecAtZeroLeavesFreeValue
  intro s hw
  refine ⟨Config.waitBelowZero s.freeDraws, ?_⟩
  rw [exec_waitDec, countWait, if_pos hw]

/-! ## A fire -/

theorem exec_sched_fire {s : State} (hseq : s.seq = 5) (hw : s.waitRemaining = 0) :
    exec .sched s = .next (setSeq 0 (fire s)) := by
  rw [exec_sched, admitAt_eq_next 5 _ _ hseq, schedule_of_fire hw]

/-- The state a fire's hook starts from: rendered, and the cursor stepped (R171). -/
def beforeHook (s : State) : State := advanceFrame (renderIfAny (selected s) s)

theorem fire_eq (s : State) : fire s = reloadWait (runHook (selected s).updateHook (beforeHook s)) := rfl

/-- `FB` as a fire's render leaves it: unchanged without frames, else the transform of the source frame under the cursor and the shifts
from before (R155, R178). -/
theorem beforeHook_fb (s : State) :
    ((selected s).frameCount = 0 → (beforeHook s).fb = s.fb) ∧
    ∀ f, (selected s).frameCount ≠ 0 →
      (selected s).frames[if (selected s).isVirtual then 0 else s.frameIndex.toNat]? = some f →
      (beforeHook s).fb = xform f s.xShift s.yShift := by
  rw [beforeHook, advanceFrame_fb, renderIfAny]
  constructor
  · intro hn
    rw [if_pos hn]
  · intro f hn hstored
    rw [if_neg hn, render_of_stored hstored]

/-- A hook other than Starfield leaves `FB` (R181 to R184). -/
theorem fire_fb_of_not_star {s : State} (hhook : (selected s).updateHook ≠ .starfield) : (fire s).fb = (beforeHook s).fb := by
  rw [fire_eq, reloadWait_fb]
  cases h : (selected s).updateHook with
  | starfield => exact absurd h hhook
  | none | horizontalShift | verticalShift => rfl

/-- Settles O33: each register of `fire` by its own lemma. -/
theorem fireResultByRegister : Obligations.FireResultByRegister := by
  unfold Obligations.FireResultByRegister
  intro s hseq hw
  have hframe : (setSeq 0 (fire s)).frameIndex = nextFrame (selected s).frameCount s.frameIndex := fire_frameIndex s
  have hx : (setSeq 0 (fire s)).xShift.toNat =
      if (selected s).updateHook = .horizontalShift then (setSeq 0 (fire s)).frameIndex.toNat % 4 else s.xShift.toNat := by
    rw [setSeq_xShift, fire_xShift, apply_ite BitVec.toNat, shiftOf_toNat]
    rfl
  have hy : (setSeq 0 (fire s)).yShift.toNat =
      if (selected s).updateHook = .verticalShift then (setSeq 0 (fire s)).frameIndex.toNat % 4 else s.yShift.toNat := by
    rw [setSeq_yShift, fire_yShift, apply_ite BitVec.toNat, shiftOf_toNat]
    rfl
  refine ⟨setSeq 0 (fire s), exec_sched_fire hseq hw, fire_waitRemaining s, ?_, hx, hy, fun hhook => ?_, rfl,
    fire_programIndex s, fire_prevRawLevel s, fire_debounceCountdown s, fire_out s, fire_table s, fire_rawLevelReset s,
    fire_lfsrOverrides s, fire_input s, fire_freeDraws s⟩
  · rw [hframe, nextFrame_toNat_eq_ite]
    rfl
  · obtain ⟨hlfsr, hphase⟩ := fire_keeps_lfsr_starPhase hhook
    refine ⟨hlfsr, hphase, ?_⟩
    rw [setSeq_fb, fire_fb_of_not_star hhook]
    exact beforeHook_fb s

/-! ## A fire of a Starfield program -/

theorem fire_of_star {s : State} (hhook : (selected s).updateHook = .starfield) :
    fire s = reloadWait (starHook (beforeHook s)) := by
  rw [fire_eq, hhook]
  rfl

theorem beforeHook_starPhase (s : State) : (beforeHook s).starPhase = s.starPhase := by simp [beforeHook]
theorem beforeHook_lfsr (s : State) : (beforeHook s).lfsr = s.lfsr := by simp [beforeHook]
theorem beforeHook_lfsrOverrides (s : State) : (beforeHook s).lfsrOverrides = s.lfsrOverrides := by simp [beforeHook]

/-- Settles O34: the fire is the Starfield hook after the render, whose phases `starHook_of_phase_zero` and its like give. -/
theorem starfieldFireByPhase : Obligations.StarfieldFireByPhase := by
  unfold Obligations.StarfieldFireByPhase
  intro s hseq hw hhook
  have hfire := fire_of_star hhook
  have hphase := beforeHook_starPhase s
  have hshifts : (fire s).xShift = s.xShift ∧ (fire s).yShift = s.yShift := by
    rw [fire_xShift, fire_yShift, show (selected s).updateHook = .starfield from hhook]
    exact ⟨rfl, rfl⟩
  have hdark (h0 : s.starPhase ≠ 0) : (starHook (beforeHook s)).lfsr = s.lfsr := by
    rw [← beforeHook_lfsr s]
    by_cases h1 : s.starPhase = 1
    · rw [starHook_of_phase_one (hphase.trans h1)]
    · rw [starHook_of_later_phase (by rwa [hphase]) (by rwa [hphase])]
  refine ⟨setSeq 0 (fire s), exec_sched_fire hseq hw, ?_, fun h0 => ?_, fun h0 => ?_, fun h1 => ?_, fun h0 h1 => ?_, hshifts⟩
  · rw [setSeq_starPhase, hfire, reloadWait_starPhase, starHook_starPhase, hphase, Fin.val_add]
    rfl
  · rw [setSeq_lfsr, setSeq_fb, hfire, reloadWait_lfsr, reloadWait_fb, starHook_of_phase_zero (hphase.trans h0)]
    refine ⟨?_, fun b hb => ?_⟩
    · rw [drawLfsr_lfsr, beforeHook_lfsr, beforeHook_lfsrOverrides]
    · rw [lampBit_bit _ hb, drawnPosition_toNat]
  · rw [setSeq_lfsr, hfire, reloadWait_lfsr, hdark h0]
  · rw [setSeq_fb, hfire, reloadWait_fb, starHook_of_phase_one (hphase.trans h1)]
  · rw [setSeq_fb, hfire, reloadWait_fb, starHook_of_later_phase (by rwa [hphase]) (by rwa [hphase])]
    exact beforeHook_fb s

/-! ## RESET and the first press -/

theorem exec_edge_press {s : State} (hopen : s.debounceCountdown = 0) (hhigh : s.prevRawLevel = true) :
    exec (.edge false) s = .next (rememberLevel false (acceptPress s)) := by
  rw [exec_edge, handleEdge_press hopen hhigh]

/-- A low level where one is remembered is no press, and leaves even the remembered level as it is (R205). -/
theorem handleEdge_low_of_low {s : State} (hlow : s.prevRawLevel = false) : handleEdge false s = s := by
  by_cases hopen : s.debounceCountdown = 0
  · rw [handleEdge_noPress hopen (by simp [hlow]), rememberLevel, ← hlow]
  · exact handleEdge_locked hopen

/-- Settles O39: after RESET no lockout is on, and the remembered level is the parameter. -/
theorem firstPressRestsOnParameter : Obligations.FirstPressRestsOnParameter := by
  unfold Obligations.FirstPressRestsOnParameter
  intro s t hexec
  obtain rfl : resetRegisters s = t := Host.Outcome.next.inj hexec
  refine ⟨fun hhigh => ⟨_, exec_edge_press rfl hhigh, ?_, rfl⟩, fun hlow => ?_⟩
  · rfl
  · rw [exec_edge, handleEdge_low_of_low hlow]

/-- Settles O47: RESET writes every register the handler writes. -/
theorem resetWinsOverCoincidingEdge : Obligations.ResetWinsOverCoincidingEdge := by
  unfold Obligations.ResetWinsOverCoincidingEdge
  intro s e d
  cases e with
  | none => rfl
  | some l =>
    have hreset : resetRegisters (handleEdge l s) = resetRegisters s := by
      rcases handleEdge_cases l s with he | he | he <;> rw [he] <;> rfl
    calc execAll [.edge l, .reset] s = execAll [.reset] (handleEdge l s) := execAll_cons_of_next (exec_edge l s)
      _ = .next (resetRegisters (handleEdge l s)) := execAll_cons_of_next (exec_reset _)
      _ = exec .reset s := by rw [hreset, exec_reset]

/-! ## The length of the lockout -/

/-- How many of the `n` steps from phase `q` are DEBDECs. -/
def debDecCount (q n : Nat) : Nat := ((List.range n).filter fun j => (q + j) % 6 = 4).length

theorem debDecCount_succ (q n : Nat) : debDecCount q (n + 1) = debDecCount q n + if (q + n) % 6 = 4 then 1 else 0 := by
  rw [debDecCount, debDecCount, List.range_succ, List.filter_append, List.length_append]
  split <;> simp [*]

/-- The sequencer's own operation: a row, DEBDEC in phase 4, SCHED in phase 5 (R230). -/
theorem sequencerOp_cases (k : Fin 6) : (k ≠ 4 ∧ k ≠ 5 ∧ ∃ y, sequencerOp k = .scanRow y) ∨
    (k = 4 ∧ sequencerOp k = .debDec) ∨ (k = 5 ∧ sequencerOp k = .sched) := by
  revert k; decide

/-- Of the sequencer's own operations only DEBDEC, in phase 4, counts the lockout down (R208, R209). -/
theorem effect_sequencerOp_debounceCountdown (k : Fin 6) (s : State) :
    (effect (sequencerOp k) s).debounceCountdown.toNat = s.debounceCountdown.toNat - if k.val = 4 then 1 else 0 := by
  obtain ⟨h4, -, y, hop⟩ | ⟨rfl, hop⟩ | ⟨rfl, hop⟩ := sequencerOp_cases k <;> rw [hop]
  · have hval : k.val ≠ 4 := fun h => h4 (Fin.ext h)
    rw [if_neg hval]
    rfl
  · exact countLockout_toNat s
  · exact congrArg BitVec.toNat (schedule_debounceCountdown s)

theorem opClass_sequencerOp (k : Fin 6) : opClass (sequencerOp k) = .S := by
  revert k; decide

/-- `n` steps with no word placed: the phase they reach, one off the countdown for each DEBDEC, the remembered level untouched. -/
theorem run_nil {s : State} (hinput : s.input = []) (n : Nat) :
    ∃ t, run n s = .next t ∧ t.input = [] ∧ t.seq.val = (s.seq.val + n) % 6 ∧
      t.debounceCountdown.toNat = s.debounceCountdown.toNat - debDecCount s.seq.val n ∧ t.prevRawLevel = s.prevRawLevel := by
  induction n with
  | zero => exact ⟨s, rfl, hinput, (Nat.mod_eq_of_lt s.seq.isLt).symm, rfl, rfl⟩
  | succ n ih =>
    obtain ⟨t, hrun, ht, hseq, hcount, hlevel⟩ := ih
    refine ⟨effect (sequencerOp t.seq) t, ?_, ?_, ?_, ?_, ?_⟩
    · rw [run_add hrun]
      exact run_one (step_nil ht)
    · rw [effect_input, ht]
    · rw [effect_seq_of_phase (phaseOf_sequencerOp _), Fin.val_add, hseq]
      exact Nat.mod_add_mod _ _ _
    · rw [effect_sequencerOp_debounceCountdown, hcount, debDecCount_succ, hseq, Nat.sub_sub]
    · rw [effect_prevRawLevel (opClass_sequencerOp _), hlevel]

/-- Settles O38: the countdown of `run_nil` is above 0 before the 30th DEBDEC and 0 after it. -/
theorem lockoutLastsThirtyIterations : Obligations.LockoutLastsThirtyIterations := by
  unfold Obligations.LockoutLastsThirtyIterations
  intro s n d hinput hstart hd
  obtain ⟨t, hrun, -, hseq, hcount, hlevel⟩ := run_nil hinput n
  have hcount : t.debounceCountdown.toNat = 30 - d := by rw [hcount, hstart, hd]; rfl
  refine ⟨t, hrun, hseq, hcount, hlevel, fun l hlt => ?_, fun l hle => ?_, fun _ hlow => ?_⟩
  · have hlocked : t.debounceCountdown ≠ 0 := fun h0 => by
      have hzero : t.debounceCountdown.toNat = 0 := congrArg BitVec.toNat h0
      omega
    rw [exec_edge, handleEdge_locked hlocked]
  · have hopen : t.debounceCountdown = 0 := BitVec.eq_of_toNat_eq (hcount.trans (Nat.sub_eq_zero_of_le hle))
    exact ⟨_, exec_edge l t, by rw [handleEdge_open hopen, rememberLevel_prevRawLevel]⟩
  · rw [exec_edge, handleEdge_low_of_low (hlevel.trans hlow)]

/-! ## The steps up to SCHED -/

theorem effect_debDec (s : State) :
    effect .debDec s = { s with debounceCountdown := (countLockout s).debounceCountdown, seq := 5 } := by
  change setSeq 5 (countLockout s) = _
  rw [countLockout_writes]
  rfl

/-- A sequencer step before SCHED writes at most `OUT`, the countdown and the phase (R208, R215). -/
theorem effect_sequencerOp_writes {k : Fin 6} (hk : k ≠ 5) (s : State) :
    effect (sequencerOp k) s =
      { s with
        out := (effect (sequencerOp k) s).out
        debounceCountdown := (effect (sequencerOp k) s).debounceCountdown
        seq := (effect (sequencerOp k) s).seq } := by
  obtain ⟨-, -, y, hop⟩ | ⟨-, hop⟩ | ⟨h5, -⟩ := sequencerOp_cases k
  · rw [hop, effect_scanRow]
  · rw [hop, effect_debDec]
  · exact absurd h5 hk

/-- From any phase, `n` steps lead to SCHED where it is `n` phases ahead, writing at most `OUT`, the countdown and the phase. -/
theorem run_to_sched (n : Nat) {s : State} (hinput : s.input = []) (hseq : s.seq.val + n = 5) :
    ∃ u, run n s = .next u ∧ u.seq = 5 ∧ u = { s with out := u.out, debounceCountdown := u.debounceCountdown, seq := u.seq } := by
  induction n generalizing s with
  | zero => exact ⟨s, rfl, Fin.ext hseq, rfl⟩
  | succ n ih =>
    have hk : s.seq ≠ 5 := fun h => by rw [h] at hseq; simp at hseq
    have hwrites := effect_sequencerOp_writes hk s
    have hnext : (effect (sequencerOp s.seq) s).seq.val = s.seq.val + 1 := by
      rw [effect_seq_of_phase (phaseOf_sequencerOp _), Fin.val_add]
      exact Nat.mod_eq_of_lt (by simp; omega)
    obtain ⟨u, hrun, hu, hframe⟩ := ih ((effect_input _ s).trans hinput) (by rw [hnext]; omega)
    refine ⟨u, (run_succ_of_next (step_nil hinput)).trans hrun, hu, ?_⟩
    rw [hwrites] at hframe
    exact hframe

theorem step_nil_fire {s : State} (hinput : s.input = []) (hseq : s.seq = 5) (hw : s.waitRemaining = 0) :
    step s = .next (setSeq 0 (fire s)) := by
  rw [step_nil_eq_exec hinput hseq]
  exact exec_sched_fire hseq hw

/-- Settles O40: the steps up to SCHED keep the press's cleared schedule, and SCHED fires the new program from it. -/
theorem switchedProgramFiresAtOnce : Obligations.SwitchedProgramFiresAtOnce := by
  unfold Obligations.SwitchedProgramFiresAtOnce
  intro s t hinput hopen hhigh hexec
  obtain rfl := Host.Outcome.next.inj ((exec_edge_press hopen hhigh).symm.trans hexec)
  have hphase : s.seq.val + (5 - s.seq.val) = 5 := by omega
  obtain ⟨u, hrun, hu, hframe⟩ := run_to_sched (s := rememberLevel false (acceptPress s)) _ hinput hphase
  have hprogram : u.programIndex = s.programIndex + 1 := congrArg State.programIndex hframe
  have htable : u.table = s.table := by rw [hframe]; rfl
  have hcursor : u.frameIndex = 0 := congrArg State.frameIndex hframe
  have hx : u.xShift = 0 := congrArg State.xShift hframe
  have hy : u.yShift = 0 := congrArg State.yShift hframe
  have hfb : u.fb = s.fb := by rw [hframe]; rfl
  have hselected : s.table[(setSeq 0 (fire u)).programIndex] = selected u := by simp [selected, htable]
  obtain ⟨hskip, hrender⟩ := beforeHook_fb u
  refine ⟨setSeq 0 (fire u), ?_, rfl, ?_, ?_, ?_, fun hhook hn f hf => ?_, fun hhook hn => ?_⟩
  · have hsteps : 6 - (rememberLevel false (acceptPress s)).seq.val = (5 - s.seq.val) + 1 :=
      Nat.succ_sub (Nat.le_of_lt_succ s.seq.isLt)
    rw [hsteps, run_add hrun]
    exact run_one (step_nil_fire ((congrArg State.input hframe).trans hinput) hu (congrArg State.waitRemaining hframe))
  · rw [setSeq_programIndex, fire_programIndex, hprogram, Fin.val_add]
    rfl
  · rw [hselected]
    exact fire_waitRemaining u
  · rw [hselected, setSeq_frameIndex, fire_frameIndex, nextFrame_toNat_eq_ite, hcursor]
    rfl
  · rw [hselected] at hhook hn hf
    have hstored : (selected u).frames[if (selected u).isVirtual then 0 else u.frameIndex.toNat]? = some f := by
      simpa [hcursor] using hf
    rw [setSeq_fb, fire_fb_of_not_star hhook, hrender f hn hstored, hx, hy, xform_zero]
  · rw [hselected] at hhook hn
    rw [setSeq_fb, fire_fb_of_not_star hhook, hskip hn, hfb]

end Sys2Proof.Machine
end

section
/-! Iterations of the main sequencer with no word placed (`45_main_sequencer.md` R232, `42_scheduler.md` R172, R174). -/

namespace Sys2Proof.Machine

/-! ## One iteration -/

/-- What an iteration's first five steps write (R232). -/
theorem beforeSched_writes (s : State) : beforeSched s =
    { s with out := s.out ++ passWords s.fb, debounceCountdown := (beforeSched s).debounceCountdown, seq := 5 } := by
  have heffect : beforeSched s = effect .debDec (afterPass s) := rfl
  rw [heffect, effect_debDec]
  rfl

theorem beforeSched_debounceCountdown (s : State) :
    (beforeSched s).debounceCountdown.toNat = s.debounceCountdown.toNat - 1 := countLockout_toNat (afterPass s)

@[simp] theorem beforeSched_waitRemaining (s : State) : (beforeSched s).waitRemaining = s.waitRemaining := by
  rw [beforeSched_writes]
@[simp] theorem beforeSched_frameIndex (s : State) : (beforeSched s).frameIndex = s.frameIndex := by
  rw [beforeSched_writes]
@[simp] theorem beforeSched_selected (s : State) : selected (beforeSched s) = selected s := by
  rw [beforeSched_writes]; rfl

/-- Settles O41: the iteration is `run_iter`, and SCHED starts from the state of `beforeSched_writes`. -/
theorem iterationAsOneFunction : Obligations.IterationAsOneFunction := by
  unfold Obligations.IterationAsOneFunction
  intro s hinput hseq
  refine ⟨afterIter s, (beforeSched s).debounceCountdown, run_iter hinput hseq, beforeSched_debounceCountdown s, ?_,
    afterIter_seq s⟩
  rw [← passWords_eq, ← beforeSched_writes, exec_sched]
  exact admitAt_eq_next 5 _ _ rfl

theorem afterIter_out_length (s : State) : (afterIter s).out.length = s.out.length + 4 := by
  have hout : (afterIter s).out = s.out ++ passWords s.fb := by
    rw [afterIter, setSeq_out, schedule_out, beforeSched_writes]
  rw [hout, List.length_append]
  rfl

/-! ## Iterations that wait -/

/-- `t` differs from `s` at most in the wait, `OUT` and the lockout's countdown. -/
def WaitFrame (s t : State) : Prop :=
  t = { s with waitRemaining := t.waitRemaining, out := t.out, debounceCountdown := t.debounceCountdown }

theorem WaitFrame.trans {s t u : State} (h : WaitFrame s t) (h' : WaitFrame t u) : WaitFrame s u := by
  unfold WaitFrame at h h' ⊢
  rw [h] at h'
  exact h'

theorem afterIter_of_wait {s : State} (hw : s.waitRemaining ≠ 0) : afterIter s = setSeq 0 (countWait (beforeSched s)) := by
  rw [afterIter, schedule_of_wait (by simpa using hw)]

/-- An iteration that waits keeps the program, the frame cursor and `FB` (R174, R232). -/
theorem waitFrame_afterIter {s : State} (hseq : s.seq = 0) (hw : s.waitRemaining ≠ 0) : WaitFrame s (afterIter s) := by
  unfold WaitFrame
  rw [afterIter_of_wait hw, countWait_writes (by simpa using hw), beforeSched_writes, setSeq, ← hseq]

theorem afterIter_waitRemaining {s : State} (hw : s.waitRemaining ≠ 0) : (afterIter s).waitRemaining.toNat =
    if s.waitRemaining.toNat = 255 then 255 else s.waitRemaining.toNat - 1 := by
  rw [afterIter_of_wait hw, setSeq_waitRemaining, countWait_toNat (by simpa using hw), beforeSched_waitRemaining]

/-- `k` iterations while the wait lasts, which at the sentinel is for ever: they count the wait and the lockout down and send. -/
theorem run_waiting {s : State} (hinput : s.input = []) (hseq : s.seq = 0) (k : Nat)
    (hk : s.waitRemaining.toNat = 255 ∨ k ≤ s.waitRemaining.toNat) :
    ∃ t, run (6 * k) s = .next t ∧
      t.waitRemaining.toNat = (if s.waitRemaining.toNat = 255 then 255 else s.waitRemaining.toNat - k) ∧
      t.out.length = s.out.length + 4 * k ∧ t.debounceCountdown.toNat = s.debounceCountdown.toNat - k ∧ WaitFrame s t := by
  induction k with
  | zero => exact ⟨s, rfl, by split <;> omega, rfl, rfl, rfl⟩
  | succ k ih =>
    obtain ⟨t, hrun, hwait, hout, hcount, hframe⟩ := ih (by omega)
    have htinput : t.input = [] := by rw [hframe]; exact hinput
    have htseq : t.seq = 0 := by rw [hframe]; exact hseq
    have hpos : t.waitRemaining.toNat ≠ 0 := by split at hwait <;> omega
    have hw : t.waitRemaining ≠ 0 := fun h0 => hpos (congrArg BitVec.toNat h0)
    refine ⟨afterIter t, ?_, ?_, ?_, ?_, hframe.trans (waitFrame_afterIter htseq hw)⟩
    · rw [Nat.mul_succ, run_add hrun, run_iter htinput htseq]
    · rw [afterIter_waitRemaining hw, hwait]
      split
      · rfl
      · rw [if_neg (by omega), Nat.sub_sub]
    · rw [afterIter_out_length, hout]
      omega
    · rw [afterIter_debounceCountdown, hcount, Nat.sub_sub]

/-- Settles O44: the wait of `run_waiting` stays at the sentinel. -/
theorem sentinelFreezesForEver : Obligations.SentinelFreezesForEver := by
  unfold Obligations.SentinelFreezesForEver
  intro s k hinput hseq hw
  have hsentinel : s.waitRemaining.toNat = 255 := congrArg BitVec.toNat hw
  obtain ⟨t, hrun, hwait, hout, hcount, hframe⟩ := run_waiting hinput hseq k (.inl hsentinel)
  have hsame : t.waitRemaining = s.waitRemaining := by
    rw [if_pos hsentinel] at hwait
    exact BitVec.eq_of_toNat_eq (hwait.trans hsentinel.symm)
  refine ⟨t, hrun, hout, hcount, ?_⟩
  rw [WaitFrame, hsame] at hframe
  exact hframe

/-! ## The iteration that fires -/

theorem afterIter_of_fire {s : State} (hw : s.waitRemaining = 0) : afterIter s = setSeq 0 (fire (beforeSched s)) := by
  rw [afterIter, schedule_of_fire (by simpa using hw)]

theorem afterIter_waitRemaining_of_fire {s : State} (hw : s.waitRemaining = 0) :
    (afterIter s).waitRemaining = (selected s).frameDelay := by
  rw [afterIter_of_fire hw, setSeq_waitRemaining, fire_waitRemaining, beforeSched_selected]

theorem afterIter_frameIndex_of_fire {s : State} (hw : s.waitRemaining = 0) :
    (afterIter s).frameIndex = nextFrame (selected s).frameCount s.frameIndex := by
  rw [afterIter_of_fire hw, setSeq_frameIndex, fire_frameIndex, beforeSched_selected, beforeSched_frameIndex]

theorem afterIter_programIndex (s : State) : (afterIter s).programIndex = s.programIndex := by
  rw [afterIter, setSeq_programIndex, schedule_programIndex, beforeSched_writes]

theorem afterIter_table (s : State) : (afterIter s).table = s.table := by
  rw [afterIter, setSeq_table, schedule_table, beforeSched_writes]

theorem afterIter_selected (s : State) : selected (afterIter s) = selected s := by
  rw [afterIter, setSeq_selected, schedule_selected, beforeSched_selected]

/-- The iteration after the last one that waits fires (R172). -/
theorem run_until_fire {s : State} (hinput : s.input = []) (hseq : s.seq = 0) (hw : s.waitRemaining.toNat ≠ 255) :
    ∃ u, run (6 * (s.waitRemaining.toNat + 1)) s = .next u ∧ u.seq = 0 ∧ u.waitRemaining = (selected s).frameDelay ∧
      u.frameIndex = nextFrame (selected s).frameCount s.frameIndex ∧
      u.programIndex = s.programIndex ∧ u.table = s.table ∧ u.input = [] := by
  obtain ⟨t, hrun, hwait, -, -, hframe⟩ := run_waiting hinput hseq s.waitRemaining.toNat (.inr le_rfl)
  have hzero : t.waitRemaining = 0 := by
    rw [if_neg hw, Nat.sub_self] at hwait
    exact BitVec.eq_of_toNat_eq hwait
  have htinput : t.input = [] := by rw [hframe]; exact hinput
  have htseq : t.seq = 0 := by rw [hframe]; exact hseq
  have hselected : selected t = selected s := by rw [hframe]; rfl
  refine ⟨afterIter t, ?_, afterIter_seq t, ?_, ?_, ?_, ?_, (afterIter_input t).trans htinput⟩
  · rw [Nat.mul_succ, run_add hrun, run_iter htinput htseq]
  · rw [afterIter_waitRemaining_of_fire hzero, hselected]
  · rw [afterIter_frameIndex_of_fire hzero, hselected, hframe]
  · rw [afterIter_programIndex, hframe]
  · rw [afterIter_table, hframe]

/-- Settles O42: `run_waiting` below the sentinel, and then `run_until_fire`. -/
theorem waitLastsItsCount : Obligations.WaitLastsItsCount := by
  unfold Obligations.WaitLastsItsCount
  constructor
  · intro s k hinput hseq hw hk
    obtain ⟨t, hrun, hwait, hout, hcount, hframe⟩ := run_waiting hinput hseq k (.inr hk)
    exact ⟨t, hrun, by rw [hwait, if_neg hw], hout, hcount, hframe⟩
  · intro s hinput hseq hw
    obtain ⟨u, hrun, hu, hdelay, hcursor, hrest⟩ := run_until_fire hinput hseq hw
    exact ⟨u, hrun, hu, hdelay, by rw [hcursor, nextFrame_toNat_eq_ite]; rfl, hrest⟩

/-- Settles O43: the first iteration fires and reloads the delay, which the iterations of `run_until_fire` then wait for. -/
theorem firesAreDelayPlusOneApart : Obligations.FiresAreDelayPlusOneApart := by
  unfold Obligations.FiresAreDelayPlusOneApart
  intro s k hinput hseq hw hdelay hk
  have hiter := run_iter hinput hseq
  have hainput : (afterIter s).input = [] := (afterIter_input s).trans hinput
  have hawait : (afterIter s).waitRemaining = (selected s).frameDelay := afterIter_waitRemaining_of_fire hw
  have hother : (afterIter s).waitRemaining.toNat ≠ 255 := by
    rw [hawait]
    exact fun h => hdelay (BitVec.eq_of_toNat_eq h)
  obtain ⟨t, hrunt, hwait, -, -, hframe⟩ := run_waiting hainput (afterIter_seq s) k (.inr (by rw [hawait]; exact hk))
  obtain ⟨u, hrunu, -, hreload, hcursor, -⟩ := run_until_fire hainput (afterIter_seq s) hother
  rw [afterIter_selected] at hreload hcursor
  refine ⟨afterIter s, t, u, hiter, ?_, ?_, ?_, ?_, ?_, hreload, ?_⟩
  · rw [run_add hiter, hrunt]
  · rw [run_add hiter, ← hrunu, hawait]
    rfl
  · rw [hframe]
  · rw [hframe]
  · rw [hwait, if_neg hother, hawait]
    rfl
  · rw [hcursor, nextFrame_toNat_eq_ite]
    rfl

end Sys2Proof.Machine
end

section
/-! The signal-level ports, `30_encoding.md` R110: a step whose table reads `pt_data` answers is the block's step, and the strobe marks the
bytes sent. -/

namespace Sys2Proof.Machine

/-! ## Table reads answered by `pt_data` -/

theorem renderFrom_of_answer {d : PtData} {s : State} (hframe : d.frame = sourceFrame s) : renderFrom d s = render s := by
  rw [renderFrom, hframe]
  rfl

theorem advanceFrom_of_answer {d : PtData} {s : State} (hcount : d.frameCount = (selected s).frameCount) :
    advanceFrom d s = advanceFrame s := by
  rw [advanceFrom, hcount]
  rfl

theorem reloadFrom_of_answer {d : PtData} {s : State} (hdelay : d.frameDelay = (selected s).frameDelay) :
    reloadFrom d s = reloadWait s := by
  rw [reloadFrom, hdelay]
  rfl

/-- `pt_data` holds the storage's answer at the address `s` puts out: the selected descriptor and the source frame (R110). -/
theorem ptData_of_answer {d : PtData} {s : State} (h : ptAnswer s.table (tableAddress s) = some d) :
    d.frameCount = (selected s).frameCount ∧ d.frameDelay = (selected s).frameDelay ∧
      d.updateHook = (selected s).updateHook ∧ d.frame = sourceFrame s := by
  rw [ptAnswer_tableAddress] at h
  obtain rfl := Option.some.inj h
  exact ⟨rfl, rfl, rfl, rfl⟩

/-- The parts of a fire keep the selected program, so that each finds its own field of the one answer (R171). -/
theorem fireFrom_of_answer {d : PtData} {s : State} (h : ptAnswer s.table (tableAddress s) = some d) :
    fireFrom d s = fire s := by
  obtain ⟨hcount, hdelay, hhook, hframe⟩ := ptData_of_answer h
  have hrender : (if d.frameCount = 0 then s else renderFrom d s) = renderIfAny (selected s) s := by
    rw [hcount, renderFrom_of_answer hframe]
    rfl
  rw [fireFrom, hrender, advanceFrom_of_answer (by simpa using hcount), hhook, reloadFrom_of_answer (by simpa using hdelay)]
  rfl

theorem execFrom_of_answer {d : PtData} {s : State} (h : ptAnswer s.table (tableAddress s) = some d) (i : Instr) :
    execFrom d i s = exec i s := by
  obtain ⟨hcount, hdelay, -, hframe⟩ := ptData_of_answer h
  cases i with
  | sched =>
    rw [execFrom, fireFrom_of_answer h]
    rfl
  | render => exact congrArg Host.Outcome.next (renderFrom_of_answer hframe)
  | advance => exact congrArg Host.Outcome.next (advanceFrom_of_answer hcount)
  | reload => exact congrArg Host.Outcome.next (reloadFrom_of_answer hdelay)
  | _ => rfl

/-! ## Outputs -/

theorem portOutputs_address (i : Instr) (s : State) : (portOutputs i s).address = tableAddress s := by
  cases i with
  | scanRow y => rw [portOutputs]; split <;> rfl
  | _ => rfl

/-- An operation that answers a next state is strobed exactly for the byte it sends (R70, R110). -/
theorem exec_out_of_strobe {i : Instr} {s t : State} (h : exec i s = .next t) :
    t.out = s.out ++ if (portOutputs i s).driveStrobe then [(portOutputs i s).driveWord] else [] := by
  obtain ⟨hphase, rfl⟩ := (exec_next_iff i s t).1 h
  cases i with
  | scanRow y =>
    have hseq : s.seq = phaseOfRow y := hphase _ rfl
    rw [portOutputs, if_pos hseq]
    rfl
  | _ => simp [effect, portOutputs, quietOutputs]

/-- An operation that is refused sends nothing and is not strobed (R110). -/
theorem strobe_of_refused {i : Instr} {s : State} {r : Refusal} (h : exec i s = .refused r) :
    (portOutputs i s).driveStrobe = false := by
  cases i with
  | scanRow y =>
    have hseq : s.seq ≠ phaseOfRow y := fun hseq => by
      rw [exec_scanRow_of_phase hseq] at h
      cases h
    rw [portOutputs, if_neg hseq]
    rfl
  | _ => rfl

/-! ## A step at the ports -/

theorem portStep_of_illegal {p : PinInputs} {s : State} {why : IllegalWord}
    (hd : decode (nextWord (s.arrive p)).word = .illegal why) :
    portStep p s = (quietOutputs (afterFetch (s.arrive p)), .refused .illegalOperationWord) := by
  simp only [portStep, hd]

theorem portStep_of_micro {p : PinInputs} {s : State} {i : Instr} (hd : decode (nextWord (s.arrive p)).word = .ok i)
    (ha : ¬ admittedAtLevel (nextWord (s.arrive p)).level i = true) :
    portStep p s = (quietOutputs (afterFetch (s.arrive p)), .refused .microOpAtTopLevel) := by
  simp only [portStep, hd, if_neg ha]

theorem portStep_of_admitted {p : PinInputs} {s : State} {i : Instr} (hd : decode (nextWord (s.arrive p)).word = .ok i)
    (ha : admittedAtLevel (nextWord (s.arrive p)).level i = true) :
    portStep p s = (portOutputs i (afterFetch (s.arrive p)), execFrom p.ptData i (afterFetch (s.arrive p))) := by
  simp only [portStep, hd, if_pos ha]

/-- The inputs and the fetch write the queue alone, so that the address is that of the state before. -/
theorem tableAddress_afterFetch_arrive (p : PinInputs) (s : State) :
    tableAddress (afterFetch (s.arrive p)) = tableAddress s := rfl

theorem portStep_address (p : PinInputs) (s : State) : (portStep p s).1.address = tableAddress s := by
  rw [← tableAddress_afterFetch_arrive p s]
  cases hd : decode (nextWord (s.arrive p)).word with
  | illegal why => rw [portStep_of_illegal hd]; rfl
  | ok i =>
    by_cases ha : admittedAtLevel (nextWord (s.arrive p)).level i = true
    · rw [portStep_of_admitted hd ha, portOutputs_address]
    · rw [portStep_of_micro hd ha]; rfl

theorem tableAddress_ptIndex (s : State) : (tableAddress s).ptIndex.toNat = s.programIndex.val := by
  have h := s.programIndex.isLt
  rw [tableAddress, BitVec.toNat_ofNat]
  omega

/-- A step at the ports answers what the block's step answers, and strobes exactly the byte sent (R110). -/
def PortStepAgrees (p : PinInputs) (s : State) : Prop :=
  (portStep p s).2 = step (s.arrive p) ∧
  (∀ t, step (s.arrive p) = .next t →
    t.out = s.out ++ if (portStep p s).1.driveStrobe then [(portStep p s).1.driveWord] else []) ∧
  (∀ r, step (s.arrive p) = .refused r → (portStep p s).1.driveStrobe = false)

/-- A word refused for itself or its level is not strobed. -/
theorem portStepAgrees_of_refused {p : PinInputs} {s : State} {r : Refusal}
    (hport : portStep p s = (quietOutputs (afterFetch (s.arrive p)), .refused r)) (hstep : step (s.arrive p) = .refused r) :
    PortStepAgrees p s := by
  rw [PortStepAgrees, hport, hstep]
  exact ⟨rfl, fun _ h => (by cases h), fun _ _ => rfl⟩

theorem portStepAgrees_of_admitted {p : PinInputs} {s : State} {i : Instr}
    (hanswer : ptAnswer s.table (tableAddress s) = some p.ptData) (hd : decode (nextWord (s.arrive p)).word = .ok i)
    (ha : admittedAtLevel (nextWord (s.arrive p)).level i = true) : PortStepAgrees p s := by
  have hfetched : ptAnswer (afterFetch (s.arrive p)).table (tableAddress (afterFetch (s.arrive p))) = some p.ptData := hanswer
  rw [PortStepAgrees, portStep_of_admitted hd ha, step_of_decode hd ha]
  exact ⟨execFrom_of_answer hfetched i, fun _ h => (exec_out_of_strobe h :), fun _ h => strobe_of_refused h⟩

/-- Settles O48: an admitted word runs with its table reads answered; an illegal or unadmitted one is refused without a strobe. -/
theorem portsAddNoBehaviour : Obligations.PortsAddNoBehaviour := by
  unfold Obligations.PortsAddNoBehaviour
  intro p s hanswer
  have hagrees : PortStepAgrees p s := by
    cases hd : decode (nextWord (s.arrive p)).word with
    | illegal why => exact portStepAgrees_of_refused (portStep_of_illegal hd) (step_of_illegal hd)
    | ok i =>
      by_cases ha : admittedAtLevel (nextWord (s.arrive p)).level i = true
      · exact portStepAgrees_of_admitted hanswer hd ha
      · exact portStepAgrees_of_refused (portStep_of_micro hd ha) (step_of_micro hd ha)
  obtain ⟨hstep, hnext, hrefused⟩ := hagrees
  rw [portStep_address]
  exact ⟨hstep, hnext, hrefused, tableAddress_ptIndex s, rfl⟩

end Sys2Proof.Machine
end
